-- ==== Sys2Proof/Word.lean ====
section
/-! DEFINITION. The words of the block: bytes, 32-bit command and host words, bus and register addresses. -/

namespace Sys2Proof

/-- One byte: a device register, a buffer element, a byte of a frame. -/
abbrev Byte := BitVec 8

/-- One 32-bit word of the host register map, or one command word (30_encoding R100). -/
abbrev Word := BitVec 32

/-- A BusAddress: "7-bit identifier of a device on the bus" (20_memory R70(a)). -/
abbrev DevAddr := BitVec 7

/-- A RegisterAddress: "8-bit address within a device's register space" (20_memory R70(b)). -/
abbrev RegAddr := BitVec 8

end Sys2Proof
end

