-- ==== Sys2Proof/Config.lean ====
section
/-! DEFINITION. What a build fixes (00_scope R8, R9), what the bus environment can be asked and can answer
(20_memory R78), and the uninterpreted constants that stand for everything the spec leaves open. -/

namespace Sys2Proof

/-- MODE, the build parameter of 00_scope R9: only two modes exist (43_conversion_framing R268). -/
inductive Mode where
  | count
  | physical
deriving DecidableEq, Repr, Inhabited

/-- The orders of evaluating the physical-unit product that 43_conversion_framing R264 lists, and an unknown one. -/
inductive FloatOrder where
  /-- binary64, left to right -/
  | double
  /-- the binary64 product rounded to binary32, then multiplied by 1000 in binary64 -/
  | doubleToSingle
  /-- that binary32 value multiplied by 1000 in binary32 -/
  | doubleToSingleSingle
  /-- all-binary32 arithmetic with binary32 constants -/
  | single
  /-- an evaluation nothing is known of: a draw at each multiple of 250 -/
  | unknown
deriving DecidableEq, Repr, Inhabited

/-- PHYS_EVAL of 00_scope R9: {Exact, Float(order)}. -/
inductive PhysEval where
  | exact
  | float (order : FloatOrder)
deriving DecidableEq, Repr, Inhabited

/-- CFG_POLICY of 00_scope R9: CONFIG's write policy (40_bus_transactions R175, R176). -/
inductive CfgPolicy where
  | ifDifferent
  | always
deriving DecidableEq, Repr, Inhabited

/-- The build parameters of 00_scope R9, "a named argument of the model" each. BURST_MAX is the constant `burstMax`. -/
structure Build where
  mode       : Mode
  devAddr    : DevAddr
  regIdent   : RegAddr
  regStatus  : RegAddr
  regCtrlA   : RegAddr
  regCtrlB   : RegAddr
  regOutBase : RegAddr
  ctrlRefA   : Byte
  ctrlRefB   : Byte
  physEval   : PhysEval
  cfgPolicy  : CfgPolicy
deriving DecidableEq, Repr, Inhabited

/-- BURST_MAX (00_scope R9): the capacity of BUF and the largest burst count. -/
abbrev burstMax : Nat := 32

/-- SAMPLE_BYTES (00_scope R8): bytes moved by one sampling burst, two per axis. -/
abbrev sampleBytes : Nat := 6

/-- HEADER (00_scope R8). -/
def frameHeader : Byte := 0xA0#8

/-- FOOTER (00_scope R8). -/
def frameFooter : Byte := 0xC0#8

/-- FLEN(MODE) (00_scope R8): the frame length in bytes. -/
def flen : Mode → Nat
  | .count => 8
  | .physical => 14

/-- One bus transaction (00_scope R13), as BUS_LOG records it (10_state R52): a read carries its byte count, a write
the written byte. -/
inductive BusTxn where
  | probe (dev : DevAddr)
  | read (dev : DevAddr) (reg : RegAddr) (n : Nat)
  | write (dev : DevAddr) (reg : RegAddr) (value : Byte)
deriving DecidableEq, Repr, Inhabited

/-- What the bus environment does with one transaction (20_memory R78). `served data` is Ack, Data or Done: a read of n
bytes receives the first n bytes of `data`, a probe and a write take nothing from it. There is no Timeout answer
(60_exceptions R304), and `silent` is "no answer, in which case the transaction never completes". -/
inductive BusAnswer where
  | noAck
  | busError
  | silent
  | served (data : Vector Byte burstMax)
deriving DecidableEq, Repr, Inhabited

namespace Config

/-- MODE of the build at hand (10_state R51). Uninterpreted: log entry 1. -/
opaque mode : Mode
/-- DEV_ADDR (00_scope R9, OPEN). Uninterpreted: log entry 1. -/
opaque devAddr : DevAddr
/-- REG_IDENT (00_scope R9, OPEN). Uninterpreted: log entry 1. -/
opaque regIdent : RegAddr
/-- REG_STATUS (00_scope R9, OPEN). Uninterpreted: log entry 1. -/
opaque regStatus : RegAddr
/-- REG_CTRL_A (00_scope R9, OPEN). Uninterpreted: log entry 1. -/
opaque regCtrlA : RegAddr
/-- REG_CTRL_B (00_scope R9, OPEN). Uninterpreted: log entry 1. -/
opaque regCtrlB : RegAddr
/-- REG_OUT_BASE (00_scope R9, OPEN). Uninterpreted: log entry 1. -/
opaque regOutBase : RegAddr
/-- CTRL_REF_A (00_scope R9, OPEN). Uninterpreted: log entry 1. -/
opaque ctrlRefA : Byte
/-- CTRL_REF_B (00_scope R9, OPEN). Uninterpreted: log entry 1. -/
opaque ctrlRefB : Byte

/-- The build the block is reset in: the OPEN parameters are uninterpreted, PHYS_EVAL and CFG_POLICY have the values the
spec chose (00_scope R9: Exact, IfDifferent). -/
def build : Build where
  mode := mode
  devAddr := devAddr
  regIdent := regIdent
  regStatus := regStatus
  regCtrlA := regCtrlA
  regCtrlB := regCtrlB
  regOutBase := regOutBase
  ctrlRefA := ctrlRefA
  ctrlRefB := ctrlRefB
  physEval := .exact
  cfgPolicy := .ifDifferent

/-- The bus environment past the script that State holds: what it answers to the k-th transaction of the run. A free
value (20_memory R78: "any byte values", or no answer). Log entry 2. -/
opaque busOracle : Nat → BusTxn → BusAnswer

/-- The draw of 43_conversion_framing R264 for an unknown float evaluation: whether the product at this multiple of 250
truncates one lower in magnitude. A free value. Log entry 8. -/
opaque physDraw : Int → Bool

/-- The informative defaults of 00_scope R9 ("from general knowledge, not in source"), for the tests of 95_test_vectors
only: no meaning of the model uses them. Log entry 1. -/
def informative (m : Mode) : Build where
  mode := m
  devAddr := 0x18#7
  regIdent := 0x0F#8
  regStatus := 0x27#8
  regCtrlA := 0x20#8
  regCtrlB := 0x23#8
  regOutBase := 0x28#8
  ctrlRefA := 0x57#8
  ctrlRefB := match m with
    | .count => 0x80#8
    | .physical => 0x98#8
  physEval := .exact
  cfgPolicy := .ifDifferent

end Config
end Sys2Proof
end

