-- ==== Sys2Proof/Syntax.lean ====
section
/-! DEFINITION. The ten host commands of opcode_table.json (30_encoding R109), one constructor per row. -/

namespace Sys2Proof

/-- A host command with its operands (30_encoding R103, R119). All operands are unsigned (R102). -/
inductive Instr where
  /-- PROBE dev, format D (40_bus_transactions R140) -/
  | probe (dev : DevAddr)
  /-- RDREG dev, reg, format DR (R150) -/
  | rdreg (dev : DevAddr) (reg : RegAddr)
  /-- WRREG dev, reg, data, format DRV (R155) -/
  | wrreg (dev : DevAddr) (reg : RegAddr) (data : Byte)
  /-- RDBURST dev, reg, count, format DRC (R160) -/
  | rdburst (dev : DevAddr) (reg : RegAddr) (count : BitVec 8)
  /-- SCAN, format N (R170) -/
  | scan
  /-- CONFIG, format N (R175) -/
  | config
  /-- LDBUF idx, data, format IV (43_conversion_framing R280) -/
  | ldbuf (idx : BitVec 8) (data : Byte)
  /-- CONVERT, format N (R281) -/
  | convert
  /-- EMIT, format N (R282) -/
  | emit
  /-- START, format N (42_sampling_scheduler R222) -/
  | start
deriving DecidableEq, Repr, Inhabited

end Sys2Proof
end

