-- ==== Sys2Proof/WellFormed.lean ====
section
/-! DEFINITION. The extra value checks of the opcode map (30_encoding R106, R107): which operands are legal. -/

namespace Sys2Proof

/-- RDBURST's operands are legal only when 1 <= count <= BURST_MAX and reg + count <= 256 (R106); LDBUF's only when
idx < BURST_MAX (R107). Every operand value of the other commands is legal (R104, R105). -/
def Instr.wf : Instr → Bool
  | .probe _ => true
  | .rdreg _ _ => true
  | .wrreg _ _ _ => true
  | .rdburst _ reg count =>
      decide (1 ≤ count.toNat) && decide (count.toNat ≤ burstMax) && decide (reg.toNat + count.toNat ≤ 256)
  | .scan => true
  | .config => true
  | .ldbuf idx _ => decide (idx.toNat < burstMax)
  | .convert => true
  | .emit => true
  | .start => true

end Sys2Proof
end

