-- ==== Sys2Proof/Decode.lean ====
section
/-! DEFINITION. The command word's decoder (30_encoding R100 to R111), total on every word, and its encoder (R101,
R119). The command port takes whole 32-bit words, so no byte order enters (log entry 12). -/

namespace Sys2Proof

/-- OP, bits [7:0] (R101). -/
def fieldOp (w : Word) : BitVec 8 := w.extractLsb' 0 8
/-- DEV, bits [14:8] (R101, R102). -/
def fieldDev (w : Word) : DevAddr := w.extractLsb' 8 7
/-- REG, or LDBUF's IDX, bits [23:16] (R101, R102). -/
def fieldReg (w : Word) : RegAddr := w.extractLsb' 16 8
/-- DATA, or RDBURST's COUNT, bits [31:24] (R101, R102). -/
def fieldData (w : Word) : Byte := w.extractLsb' 24 8

/-- One row of the opcode map of R109: the word selects it when `(w & mask) = pattern`, and `read` takes the operands. -/
structure OpcodeRow where
  mask    : Word
  pattern : Word
  read    : Word → Instr

/-- The opcode map (R109). The masks make every unused field and RSV zero (R103, R108). -/
def opcodeMap : List OpcodeRow := [
  ⟨0xFFFF80FF#32, 0x00000001#32, fun w => .probe (fieldDev w)⟩,
  ⟨0xFF0080FF#32, 0x00000002#32, fun w => .rdreg (fieldDev w) (fieldReg w)⟩,
  ⟨0x000080FF#32, 0x00000003#32, fun w => .wrreg (fieldDev w) (fieldReg w) (fieldData w)⟩,
  ⟨0x000080FF#32, 0x00000004#32, fun w => .rdburst (fieldDev w) (fieldReg w) (fieldData w)⟩,
  ⟨0xFFFFFFFF#32, 0x00000005#32, fun _ => .scan⟩,
  ⟨0xFFFFFFFF#32, 0x00000006#32, fun _ => .config⟩,
  ⟨0x0000FFFF#32, 0x00000007#32, fun w => .ldbuf (fieldReg w) (fieldData w)⟩,
  ⟨0xFFFFFFFF#32, 0x00000008#32, fun _ => .convert⟩,
  ⟨0xFFFFFFFF#32, 0x00000009#32, fun _ => .emit⟩,
  ⟨0xFFFFFFFF#32, 0x0000000A#32, fun _ => .start⟩ ]

/-- The row's mask and match accept the word (R109). -/
def OpcodeRow.accepts (r : OpcodeRow) (w : Word) : Bool := w &&& r.mask == r.pattern

/-- Why a word is an illegal command. All three are the one result IllegalCommand (R110). -/
inductive IllegalWord where
  /-- OP 0x00 or 0x0B to 0xFF (R111) -/
  | reservedOp
  /-- RSV or a field the format does not use is not 0 (R108) -/
  | reservedBits
  /-- RDBURST's or LDBUF's operands break R106 or R107 -/
  | operandRange
deriving DecidableEq, Repr

/-- The decoder of R110, with the reason where it refuses. -/
def decode (w : Word) : Except IllegalWord Instr :=
  match opcodeMap.find? (fun r => r.accepts w) with
  | some r => if (r.read w).wf then .ok (r.read w) else .error .operandRange
  | none =>
      if opcodeMap.any (fun r => fieldOp r.pattern == fieldOp w) then .error .reservedBits else .error .reservedOp

/-- The instruction the decoder reads from a word of opcode_table.json's numbering: bit 0 is the word's least significant
bit, and the bits from nbits up are 0. -/
def decodeTableWord (nbits w : Nat) : Option Instr := (decode (BitVec.ofNat 32 (w % 2 ^ nbits))).toOption

/-- A command word from its fields, RSV = 0 (R101: `0xDDRRAAOO`). -/
def commandWord (op : BitVec 8) (dev : DevAddr) (reg : RegAddr) (data : Byte) : Word :=
  data ++ reg ++ 0#1 ++ dev ++ op

/-- The encoder: a line's word is `OP | dev<<8 | reg<<16 | data<<24`, idx in the reg position and count in the data
position, every unused field 0 (R103, R119). -/
def encode : Instr → Word
  | .probe dev => commandWord 0x01#8 dev 0#8 0#8
  | .rdreg dev reg => commandWord 0x02#8 dev reg 0#8
  | .wrreg dev reg data => commandWord 0x03#8 dev reg data
  | .rdburst dev reg count => commandWord 0x04#8 dev reg count
  | .scan => commandWord 0x05#8 0#7 0#8 0#8
  | .config => commandWord 0x06#8 0#7 0#8 0#8
  | .ldbuf idx data => commandWord 0x07#8 0#7 idx data
  | .convert => commandWord 0x08#8 0#7 0#8 0#8
  | .emit => commandWord 0x09#8 0#7 0#8 0#8
  | .start => commandWord 0x0A#8 0#7 0#8 0#8

end Sys2Proof
end

