-- ==== Sys2Proof/Machine/State.lean ====
section
/-! DEFINITION. The state of the block: every register of 10_state R33, the spec's bookkeeping, the build parameters, and
the model's own inputs; the reasons a step can stop; the state after reset (70_reset_and_hazards R340). -/

namespace Sys2Proof.Machine

/-- A Transaction Result (60_exceptions R300), the value of SEQ_RESULT (10_state R42). `timeout` is reserved and never
raised (R304). -/
inductive TxResult where
  | success
  | noAck
  | busError
  | timeout
deriving DecidableEq, Repr, Inhabited

/-- The value of CMD_RESULT (10_state R35, 30_encoding R117). Codes 6 and 7 are never written, so no constructor has
them (log entry 7). -/
inductive CmdResult where
  | success
  | noAck
  | busError
  | timeout
  | illegalCommand
  | busy
deriving DecidableEq, Repr, Inhabited

/-- PHASE, the sequencer's stored position (10_state R39). -/
inductive Phase where
  | idle
  | reading
  | emitting
deriving DecidableEq, Repr, Inhabited

/-- The two agents that issue bus transactions (10_state R30, R60(b)). -/
inductive Agent where
  | host
  | seq
deriving DecidableEq, Repr, Inhabited

/-- A transaction the bus environment never answers, and the agent stuck in it (10_state R60(b), 60_exceptions R305). -/
structure Hang where
  who : Agent
  txn : BusTxn
deriving DecidableEq, Repr, Inhabited

/-- One entry of BUS_LOG (10_state R52): the transaction (its kind, device, register, and length or value), its result,
and the bytes returned, for a successful read only. -/
structure BusEntry where
  txn  : BusTxn
  res  : TxResult
  data : Option (List Byte)
deriving DecidableEq, Repr, Inhabited

/-- One access of the host to the register map: a byte offset and a width in bytes (10_state R54 to R57). -/
inductive HostAccess where
  | write (offset width : Nat) (value : Word)
  | read (offset width : Nat)
deriving DecidableEq, Repr, Inhabited

/-- Which agent moves next (10_state R30), and with what. `reset` is a request to reset in the middle of a run. -/
inductive Turn where
  | host (access : HostAccess)
  | tick
  | seq
  | reset
deriving DecidableEq, Repr, Inhabited

/-- No code of the block traps and no failure is fatal (60_exceptions R301), and an unanswered transaction is no fault
(R305): nothing raises a fault, and the type has no constructor (log entry 13). -/
inductive Fault
deriving DecidableEq, Repr

/-- Why a step has no meaning. -/
inductive Refusal where
  /-- Raised by an arm of `exec` whose instruction has no meaning yet. Safe: no run goes on from it. -/
  | notModelled (mnemonic : String)
  /-- Raised by a host access that is not an aligned 32-bit word: "refused by the model: it has no meaning"
  (10_state R57). Safe. -/
  | hostAccess
  /-- Raised by a reset in the middle of a run: "not modelled, and a model refuses it" (70_reset_and_hazards R340).
  Safe. -/
  | midRunReset
deriving DecidableEq, Repr

/-- The state of the block, plain data. -/
structure State where
  /-- CMD_LAST (10_state R34) -/
  cmdLast    : Word
  /-- CMD_RESULT (R35) -/
  cmdResult  : CmdResult
  /-- SEQ_RESULT (R42) -/
  seqResult  : TxResult
  /-- RDATA (R36) -/
  rdata      : Byte
  /-- RUN (R37) -/
  run        : Bool
  /-- READY (R38) -/
  ready      : Bool
  /-- PHASE (R39) -/
  phase      : Phase
  /-- ERR_COUNT (R43) -/
  errCount   : BitVec 32
  /-- FRAME_COUNT (R44) -/
  frameCount : BitVec 32
  /-- LAST_STATUS (R45) -/
  lastStatus : Byte
  /-- IDENT (R46) -/
  ident      : Byte
  /-- CFG_WROTE (R47): bit 0 REG_CTRL_A, bit 1 REG_CTRL_B -/
  cfgWrote   : BitVec 2
  /-- PRESENT (R48): bit a for device address a -/
  present    : BitVec 128
  /-- BUF (R49) -/
  buf        : Vector Byte burstMax
  /-- FRAME (R50): FLEN(MODE) bytes -/
  frame      : List Byte
  /-- MODE (R51) and the other build parameters (00_scope R9); no step writes it -/
  build      : Build
  /-- the transaction that is never answered, if there is one (R60(b)) -/
  hung       : Option Hang
  /-- BUS_LOG (R52), oldest first -/
  busLog     : List BusEntry
  /-- OUT (R53), oldest first -/
  out        : List Byte
  /-- the model's own: the words the host's reads returned, with their offsets, oldest first (log entry 6) -/
  hostReads  : List (Nat × Word)
  /-- the model's own: what the bus environment does with the coming transactions (log entry 2) -/
  answers    : List BusAnswer
  /-- the model's own: how many transactions were issued so far (log entry 2) -/
  asked      : Nat
  /-- the model's own: the coming turns of the agents (log entry 4) -/
  turns      : List Turn
deriving DecidableEq, Repr, Inhabited

/-- FRAME at reset: HEADER, then 0x00 for every payload byte, then FOOTER (10_state R33, R50). -/
def resetFrame (m : Mode) : List Byte := frameHeader :: (List.replicate (flen m - 2) 0x00#8 ++ [frameFooter])

/-- The block right after reset in the build `b` (10_state R33, 70_reset_and_hazards R340). The model's own fields are
empty: nothing is scripted (log entries 2, 4, 6). -/
def State.resetIn (b : Build) : State where
  cmdLast := 0x00000000#32
  cmdResult := .success
  seqResult := .success
  rdata := 0x00#8
  run := false
  ready := false
  phase := .idle
  errCount := 0#32
  frameCount := 0#32
  lastStatus := 0x00#8
  ident := 0x00#8
  cfgWrote := 0b00#2
  present := 0#128
  buf := Vector.replicate burstMax 0x00#8
  frame := resetFrame b.mode
  build := b
  hung := none
  busLog := []
  out := []
  hostReads := []
  answers := []
  asked := 0
  turns := []

/-- The block right after reset (70_reset_and_hazards R340), in the build that `Config.build` leaves open. -/
def State.reset : State := State.resetIn Config.build

end Sys2Proof.Machine
end

