-- ==== Sys2Proof/Machine/Operands.lean ====
section
/-! DEFINITION. How the commands reach the block's array registers by index (20_memory R70): the presence bits, the
buffer bytes, the six raw bytes of a sample; and the numbers the results are read as. -/

namespace Sys2Proof.Machine

/-- `x[PRESENT][a] <- b` (10_state R48). -/
def setBit (v : BitVec 128) (a : Nat) (b : Bool) : BitVec 128 :=
  (v &&& ~~~(1#128 <<< a)) ||| (if b then 1#128 <<< a else 0#128)

/-- `x[PRESENT][a]` (10_state R48). -/
def presentBit (v : BitVec 128) (a : DevAddr) : Bool := v.getLsbD a.toNat

/-- `x[BUF][k] <- d[k]` for every k below the length of d, the rest unchanged (40_bus_transactions R160). -/
def fillBuf (buf : Vector Byte burstMax) (d : List Byte) : Vector Byte burstMax :=
  ⟨(d.take burstMax ++ buf.toList.drop d.length).toArray, by simp; omega⟩

/-- `x[BUF][idx] <- data`; an index of BURST_MAX or more reaches nothing (30_encoding R107 makes it illegal). -/
def putByte (buf : Vector Byte burstMax) (idx : Nat) (data : Byte) : Vector Byte burstMax :=
  buf.setIfInBounds idx data

/-- BUF[0..5], the six raw bytes `[X_lo, X_hi, Y_lo, Y_hi, Z_lo, Z_hi]` (10_state R49). -/
def rawSample (buf : Vector Byte burstMax) : Vector Byte sampleBytes :=
  #v[buf[0], buf[1], buf[2], buf[3], buf[4], buf[5]]

/-- The code of a Transaction Result (30_encoding R117), in SEQ_RESULT's 2 bits. -/
def TxResult.code : TxResult → BitVec 2
  | .success => 0#2
  | .noAck => 1#2
  | .busError => 2#2
  | .timeout => 3#2

/-- The code of a command result (30_encoding R117), in CMD_RESULT's 3 bits. -/
def CmdResult.code : CmdResult → BitVec 3
  | .success => 0#3
  | .noAck => 1#3
  | .busError => 2#3
  | .timeout => 3#3
  | .illegalCommand => 4#3
  | .busy => 5#3

/-- A Transaction Result as a command's result: the same name and code (10_state R35). -/
def CmdResult.ofTx : TxResult → CmdResult
  | .success => .success
  | .noAck => .noAck
  | .busError => .busError
  | .timeout => .timeout

/-- MODE's bit (10_state R51). -/
def modeBit : Mode → BitVec 1
  | .count => 0#1
  | .physical => 1#1

end Sys2Proof.Machine
end

