-- ==== Sys2Proof/Machine/Flags.lean ====
section
/-! DEFINITION. The block has no arithmetic flags (10_state R58): its flag computations are the two tests of the sensor's
status byte (41_sensor_register_map) and the SCHED_STATE view (10_state R40). -/

namespace Sys2Proof.Machine

/-- `isNewDataAvailable(s) = (s[3] = 1)` (41_sensor_register_map R200; NDA_BIT of 00_scope R8). -/
def isNewDataAvailable (status : Byte) : Bool := status.getLsbD 3

/-- `isDataOverrun(s) = (s[7] = 1)` (41_sensor_register_map R201; OVR_BIT of 00_scope R8). No rule branches on it. -/
def isDataOverrun (status : Byte) : Bool := status.getLsbD 7

/-- SCHED_STATE, the view of the source's four states: Idle 0, Ready 1, Reading 2, Emitting 3 (10_state R40). -/
def schedState (phase : Phase) (ready : Bool) : BitVec 2 :=
  match phase with
  | .reading => 2#2
  | .emitting => 3#2
  | .idle => if ready then 1#2 else 0#2

end Sys2Proof.Machine
end

