-- ==== Sys2Proof/Machine/Ops.lean ====
section
/-! DEFINITION. The named operations the meanings share: one write of each register, the bus transaction (00_scope R13,
20_memory R78), the byte sink (R14), and the issue step that every command passes (30_encoding R112). The block's only
exception entry is the tick's write of READY (60_exceptions R313); there is no return (R314). -/

namespace Sys2Proof.Machine

/-- `x[CMD_LAST] <- w` (10_state R34). -/
def State.setCmdLast (w : Word) (s : State) : State := { s with cmdLast := w }
/-- `x[CMD_RESULT] <- r`, a command's last action (10_state R35). -/
def State.setCmdResult (r : CmdResult) (s : State) : State := { s with cmdResult := r }
/-- `x[SEQ_RESULT] <- r` (10_state R42). -/
def State.setSeqResult (r : TxResult) (s : State) : State := { s with seqResult := r }
/-- `x[RDATA] <- b` (10_state R36). -/
def State.setRdata (b : Byte) (s : State) : State := { s with rdata := b }
/-- `x[RUN] <- 1` (10_state R37): nothing but reset clears it. -/
def State.startRun (s : State) : State := { s with run := true }
/-- `x[READY] <- b` (10_state R38). -/
def State.setReady (b : Bool) (s : State) : State := { s with ready := b }
/-- `x[PHASE] <- p` (10_state R39). -/
def State.setPhase (p : Phase) (s : State) : State := { s with phase := p }
/-- `x[ERR_COUNT] <- (x[ERR_COUNT] + 1) mod 2^32` (10_state R43). -/
def State.countError (s : State) : State := { s with errCount := s.errCount + 1#32 }
/-- `x[FRAME_COUNT] <- (x[FRAME_COUNT] + 1) mod 2^32` (10_state R44). -/
def State.countFrame (s : State) : State := { s with frameCount := s.frameCount + 1#32 }
/-- `x[LAST_STATUS] <- b` (10_state R45). -/
def State.setLastStatus (b : Byte) (s : State) : State := { s with lastStatus := b }
/-- `x[IDENT] <- b` (10_state R46). -/
def State.setIdent (b : Byte) (s : State) : State := { s with ident := b }
/-- `x[CFG_WROTE] <- v` (10_state R47). -/
def State.setCfgWrote (v : BitVec 2) (s : State) : State := { s with cfgWrote := v }
/-- `x[PRESENT][a] <- b` (10_state R48). -/
def State.setPresent (a : Nat) (b : Bool) (s : State) : State := { s with present := setBit s.present a b }
/-- `x[BUF][k] <- d[k]` for every byte of d (10_state R49). -/
def State.loadBuf (d : List Byte) (s : State) : State := { s with buf := fillBuf s.buf d }
/-- `x[BUF][idx] <- data` (43_conversion_framing R280). -/
def State.putBuf (idx : Nat) (data : Byte) (s : State) : State := { s with buf := putByte s.buf idx data }
/-- `x[FRAME] <- f` (10_state R50). -/
def State.setFrame (f : List Byte) (s : State) : State := { s with frame := f }
/-- `Sink(bytes)`: the whole sequence goes to OUT in one step, in order (00_scope R14, 43_conversion_framing R283;
log entry 15). -/
def State.sink (bytes : List Byte) (s : State) : State := { s with out := s.out ++ bytes }
/-- A completed transaction: one entry at the end of BUS_LOG (10_state R52), one answer of the environment used. -/
def State.logTxn (e : BusEntry) (s : State) : State :=
  { s with busLog := s.busLog ++ [e], answers := s.answers.tail, asked := s.asked + 1 }
/-- A transaction the environment never answers: its agent is stuck in it, and BUS_LOG gets no entry (60_exceptions
R305; log entries 3, 20). -/
def State.hangOn (who : Agent) (t : BusTxn) (s : State) : State :=
  { s with hung := some ⟨who, t⟩, answers := s.answers.tail, asked := s.asked + 1 }
/-- The word a host read returned (log entry 6). -/
def State.noteRead (offset : Nat) (w : Word) (s : State) : State := { s with hostReads := s.hostReads ++ [(offset, w)] }

/-- What the environment does with the next transaction: the script's next answer, or the free oracle's once the script
is empty (20_memory R78; log entry 2). -/
def State.nextAnswer (t : BusTxn) (s : State) : BusAnswer := s.answers.headD (Config.busOracle s.asked t)

/-- The bytes a served transaction returns: the first n of a read, none of a probe or a write (00_scope R13). -/
def bytesOf (t : BusTxn) (data : Vector Byte burstMax) : List Byte :=
  match t with
  | .read _ _ n => data.toList.take n
  | .probe _ => []
  | .write _ _ _ => []

/-- BUS_LOG's data: the bytes returned, for a successful read only (10_state R52). -/
def logData (t : BusTxn) (data : Vector Byte burstMax) : Option (List Byte) :=
  match t with
  | .read _ _ _ => some (bytesOf t data)
  | .probe _ => none
  | .write _ _ _ => none

/-- What a completed bus primitive returns: `res`, and the bytes of a successful read (00_scope R13). -/
structure Reply where
  res   : TxResult
  bytes : List Byte
deriving DecidableEq, Repr

/-- The one byte of a successful one-byte read. -/
def Reply.byte (r : Reply) : Byte := r.bytes.headD 0x00#8

/-- A command or a transition part-way: it goes on with a value, or its agent is stuck in a transaction that is never
answered and "has no further step" (60_exceptions R305). -/
inductive Progress (α : Type) where
  | done (a : α) (s : State)
  | stuck (s : State)

/-- Go on with the next part of the pseudocode. -/
def Progress.andThen {α β : Type} (p : Progress α) (k : α → State → Progress β) : Progress β :=
  match p with
  | .done a s => k a s
  | .stuck s => .stuck s

/-- The state a command or a transition leaves. -/
def Progress.state {α : Type} : Progress α → State
  | .done _ s => s
  | .stuck s => s

/-- One bus primitive of 00_scope R13: one atomic transaction, answered by the environment (20_memory R78) and entered
once in BUS_LOG when it completes (10_state R52). Nothing retries it (40_bus_transactions R139). -/
def transact (who : Agent) (t : BusTxn) (s : State) : Progress Reply :=
  match s.nextAnswer t with
  | .served data => .done ⟨.success, bytesOf t data⟩ (s.logTxn ⟨t, .success, logData t data⟩)
  | .noAck => .done ⟨.noAck, []⟩ (s.logTxn ⟨t, .noAck, none⟩)
  | .busError => .done ⟨.busError, []⟩ (s.logTxn ⟨t, .busError, none⟩)
  | .silent => .stuck (s.hangOn who t)

/-- The issue step of 30_encoding R112, after CMD_LAST and for a decoded command: operands that R106 or R107 make illegal
give IllegalCommand, then RUN = 1 gives Busy (precedence: R114), and otherwise the command's own rule runs. A command
never stops the machine (60_exceptions R301). CMD_LAST is written by `hostWrite` (log entry 5). -/
def issue (i : Instr) (s : State) (body : State → State) : Host.Outcome State Fault Refusal :=
  .next (if i.wf then if s.run then s.setCmdResult .busy else body s else s.setCmdResult .illegalCommand)

end Sys2Proof.Machine
end

