-- ==== Sys2Proof/Machine/BusCommands.lean ====
section
/-! DEFINITION. The meanings of the transaction controller's commands (40_bus_transactions): PROBE, RDREG, WRREG, RDBURST,
SCAN, CONFIG. Each passes the issue step first. -/

namespace Sys2Proof.Machine

/-- One probe of an address and its presence bit: set if and only if the device acknowledged (R140, R170). -/
def probeAddress (dev : DevAddr) (s : State) : Progress TxResult :=
  (transact .host (.probe dev) s).andThen fun r s =>
    .done r.res (s.setPresent dev.toNat (r.res == .success))

/-- PROBE dev (R140). -/
def execProbe (dev : DevAddr) (s : State) : Host.Outcome State Fault Refusal :=
  issue (.probe dev) s fun s =>
    ((probeAddress dev s).andThen fun r s => .done () (s.setCmdResult (.ofTx r))).state

/-- RDREG dev, reg (R150): RDATA only on Success (R145). -/
def execRdreg (dev : DevAddr) (reg : RegAddr) (s : State) : Host.Outcome State Fault Refusal :=
  issue (.rdreg dev reg) s fun s =>
    ((transact .host (.read dev reg 1) s).andThen fun r s =>
      .done () ((if r.res = .success then s.setRdata r.byte else s).setCmdResult (.ofTx r.res))).state

/-- WRREG dev, reg, data (R155). -/
def execWrreg (dev : DevAddr) (reg : RegAddr) (data : Byte) (s : State) : Host.Outcome State Fault Refusal :=
  issue (.wrreg dev reg data) s fun s =>
    ((transact .host (.write dev reg data) s).andThen fun r s =>
      .done () (s.setCmdResult (.ofTx r.res))).state

/-- RDBURST dev, reg, count (R160): one transaction whatever the count (R161); BUF only on Success (R145). -/
def execRdburst (dev : DevAddr) (reg : RegAddr) (count : BitVec 8) (s : State) : Host.Outcome State Fault Refusal :=
  issue (.rdburst dev reg count) s fun s =>
    ((transact .host (.read dev reg count.toNat) s).andThen fun r s =>
      .done () ((if r.res = .success then s.loadBuf r.bytes else s).setCmdResult (.ofTx r.res))).state

/-- SCAN's loop from address a on, `left` addresses to go; `err` says whether a probe hit a line-level fault (R170). -/
def scanFrom : (left a : Nat) → (err : Bool) → State → Progress Bool
  | 0, _, err, s => .done err s
  | left + 1, a, err, s =>
      (probeAddress (BitVec.ofNat 7 a) s).andThen fun r s => scanFrom left (a + 1) (err || r == .busError) s

/-- SCAN (R170): all 128 addresses, ascending, whatever results it meets. -/
def execScan (s : State) : Host.Outcome State Fault Refusal :=
  issue .scan s fun s =>
    ((scanFrom 128 0 false s).andThen fun err s =>
      .done () (s.setCmdResult (if err then .busError else .success))).state

/-- `note(r)` of R175 over all results in order: the first that is not Success, else Success. -/
def firstFailure (rs : List TxResult) : TxResult := (rs.find? (· ≠ .success)).getD .success

/-- CONFIG's write-if-different of one control register: with CFG_POLICY = Always, after a failed read, or when the byte
read differs from the reference, it writes; the result of the write, if there was one (R175). -/
def writeControl (b : Build) (reg : RegAddr) (ref : Byte) (seen : Reply) (s : State) : Progress (Option TxResult) :=
  if b.cfgPolicy = .always ∨ seen.res ≠ .success ∨ seen.byte ≠ ref then
    (transact .host (.write b.devAddr reg ref) s).andThen fun r s => .done (some r.res) s
  else .done none s

/-- CFG_WROTE's two bits: which writes succeeded, bit 0 for REG_CTRL_A (R175, 10_state R47). -/
def wroteBits (wa wb : Option TxResult) : BitVec 2 :=
  BitVec.ofBool (wb == some .success) ++ BitVec.ofBool (wa == some .success)

/-- CONFIG's pseudocode (R175): identity, control A, control B, then the needed writes. -/
def configSteps (s : State) : Progress Unit :=
  let b := s.build
  (transact .host (.read b.devAddr b.regIdent 1) s).andThen fun ri s =>
  (transact .host (.read b.devAddr b.regCtrlA 1)
    (if ri.res = .success then s.setIdent ri.byte else s)).andThen fun ra s =>
  (transact .host (.read b.devAddr b.regCtrlB 1) s).andThen fun rb s =>
  (writeControl b b.regCtrlA b.ctrlRefA ra s).andThen fun wa s =>
  (writeControl b b.regCtrlB b.ctrlRefB rb s).andThen fun wb s =>
  .done () ((s.setCfgWrote (wroteBits wa wb)).setCmdResult
    (.ofTx (firstFailure ([ri.res, ra.res, rb.res] ++ wa.toList ++ wb.toList))))

/-- CONFIG (R175). -/
def execConfig (s : State) : Host.Outcome State Fault Refusal :=
  issue .config s fun s => (configSteps s).state

end Sys2Proof.Machine
end

