-- ==== Sys2Proof/Machine/Conversion.lean ====
section
/-! DEFINITION. The conversion unit and the frame packer (43_conversion_framing sections 1 and 2): pure functions of the
six raw bytes and the build. Arithmetic is exact on integers and narrows at the end. -/

namespace Sys2Proof.Machine

/-- SHIFT(MODE) (00_scope R8). -/
def shiftOf : Mode → Nat
  | .count => 6
  | .physical => 4

/-- SENS(MODE) (00_scope R8). -/
def sensOf : Mode → Int
  | .count => 4
  | .physical => 2

/-- `sext_N(v)`: the two's-complement integer of the bits (00_scope R11; log entry 16). -/
def sext {n : Nat} (v : BitVec n) : Int := v.toInt

/-- `asr(v, s) = floor(v / 2^s)` (00_scope R11). -/
def asr (v : Int) (s : Nat) : Int := v / 2 ^ s

/-- `wrap_N(v)`: the integer congruent to v modulo 2^N in [-2^(N-1), 2^(N-1)) (00_scope R11). -/
def wrapTo (n : Nat) (v : Int) : Int := Int.bmod v (2 ^ n)

/-- `le_N(v)`: N bytes of `v mod 2^(8N)`, least significant first (00_scope R11). -/
def leBytes (n : Nat) (v : Int) : List Byte :=
  (List.range n).map fun k => BitVec.ofInt 8 (v % 2 ^ (8 * n) / 2 ^ (8 * k))

/-- `word_i = {b[2i+1], b[2i]}` for the axis i, X, Y or Z (R260). -/
def axisWord (b : Vector Byte sampleBytes) (i : Fin 3) : BitVec 16 :=
  b[2 * i.val + 1]'(by have := i.isLt; unfold sampleBytes; omega) ++
    b[2 * i.val]'(by have := i.isLt; unfold sampleBytes; omega)

/-- `decode_s(word) = asr(sext_16(word), s)` (R261). -/
def decodeAxis (s : Nat) (word : BitVec 16) : Int := asr (sext word) s

/-- `count(v) = SENS(CountMode) * v` (R262). -/
def countOf (v : Int) : Int := sensOf .count * v

/-- `phys(v) = trunc0((v * 19612) / 1000)`, exact (R263): 19612 is 2 * 9.806 * 0.001 * 1000, over 1000. -/
def physOf (v : Int) : Int := Int.tdiv (v * 19612) 1000

/-- phys(v), one smaller in magnitude: `phys(v) - sign(v)` (R264). -/
def physLower (v : Int) : Int := physOf v - v.sign

/-- v is one of the points ±250, ±500, ..., ±2000 at which the exact product is an integer (R264); at 0 the sign is 0. -/
def multipleOf250 (v : Int) : Bool := v % 250 == 0

/-- The physical value under PHYS_EVAL (R263, R264): exact, or as the float order gives it at the multiples of 250. An
unknown order draws there (`Config.physDraw`; log entry 8). -/
def physValue (e : PhysEval) (v : Int) : Int :=
  match e with
  | .exact => physOf v
  | .float .double => if v.natAbs = 750 ∨ v.natAbs = 1250 ∨ v.natAbs = 1500 then physLower v else physOf v
  | .float .doubleToSingle => if multipleOf250 v then physLower v else physOf v
  | .float .doubleToSingleSingle => physOf v
  | .float .single => physOf v
  | .float .unknown => if multipleOf250 v && Config.physDraw v then physLower v else physOf v

/-- One axis field of the frame: 2 bytes of the wrapped count, or 4 of the wrapped physical value (R262, R263, R266). -/
def axisField (b : Build) (word : BitVec 16) : List Byte :=
  match b.mode with
  | .count => leBytes 2 (wrapTo 16 (countOf (decodeAxis (shiftOf .count) word)))
  | .physical => leBytes 4 (wrapTo 32 (physValue b.physEval (decodeAxis (shiftOf .physical) word)))

/-- `Pack(MODE, b[0..5])` (R270): header, the X, Y and Z fields, footer. -/
def pack (b : Build) (raw : Vector Byte sampleBytes) : List Byte :=
  frameHeader ::
    (axisField b (axisWord raw 0) ++ axisField b (axisWord raw 1) ++ axisField b (axisWord raw 2) ++ [frameFooter])

end Sys2Proof.Machine
end

