-- ==== Sys2Proof/Machine/PipelineCommands.lean ====
section
/-! DEFINITION. The meanings of the commands that reach the conversion unit and the frame packer (43_conversion_framing
section 3): LDBUF, CONVERT, EMIT. None issues a bus transaction. -/

namespace Sys2Proof.Machine

/-- LDBUF idx, data (R280). -/
def execLdbuf (idx : BitVec 8) (data : Byte) (s : State) : Host.Outcome State Fault Refusal :=
  issue (.ldbuf idx data) s fun s => (s.putBuf idx.toNat data).setCmdResult .success

/-- `x[FRAME] <- Pack(MODE, x[BUF][0..5])` (R281, 42_sampling_scheduler R226). -/
def State.convert (s : State) : State := s.setFrame (pack s.build (rawSample s.buf))

/-- `Sink(x[FRAME][0 .. FLEN(MODE)-1])` and FRAME_COUNT + 1 (R282, 42_sampling_scheduler R226). -/
def State.emitFrame (s : State) : State := (s.sink (s.frame.take (flen s.build.mode))).countFrame

/-- CONVERT (R281): it cannot fail. -/
def execConvert (s : State) : Host.Outcome State Fault Refusal :=
  issue .convert s fun s => s.convert.setCmdResult .success

/-- EMIT (R282): it sends whatever FRAME holds. -/
def execEmit (s : State) : Host.Outcome State Fault Refusal :=
  issue .emit s fun s => s.emitFrame.setCmdResult .success

end Sys2Proof.Machine
end

