-- ==== Sys2Proof/Machine/Scheduler.lean ====
section
/-! DEFINITION. The sampling scheduler (42_sampling_scheduler): the tick, START, and the sequencer's transitions. -/

namespace Sys2Proof.Machine

/-- TICK (R221), the block's one interrupt (60_exceptions R310, R313): its entire effect is `x[READY] <- 1`, whatever
RUN, PHASE and READY hold. -/
def tick (s : State) : State := s.setReady true

/-- START (R222): READY and PHASE are not changed. -/
def execStart (s : State) : Host.Outcome State Fault Refusal :=
  issue .start s fun s => s.startRun.setCmdResult .success

/-- SEQ_ARM (R224). -/
def seqArm (s : State) : State := s.setPhase .reading

/-- A failed transaction of the sequencer: ERR_COUNT + 1, PHASE <- Idle, READY left at 1 (R225, R226; 90_conflicts C3;
log entry 21). -/
def State.abandonCycle (s : State) : State := s.countError.setPhase .idle

/-- SEQ_STATUS (R225): one status read; Emitting on new data, else READY <- 0 and Idle. -/
def seqStatus (s : State) : State :=
  ((transact .seq (.read s.build.devAddr s.build.regStatus 1) s).andThen fun r s =>
    let s := s.setSeqResult r.res
    .done () <|
      if r.res = .success then
        if isNewDataAvailable r.byte then (s.setLastStatus r.byte).setPhase .emitting
        else ((s.setLastStatus r.byte).setReady false).setPhase .idle
      else s.abandonCycle).state

/-- SEQ_EMIT (R226): one 6-byte burst, the conversion, one frame to the sink; READY <- 0 in the same step. DESIGN CHOICE
(unsafe): in a build with REG_OUT_BASE above 0xFA, where the six registers would pass 0xFF (20_memory R77), the burst is
issued like any other and the environment answers it (log entry 22). -/
def seqEmit (s : State) : State :=
  ((transact .seq (.read s.build.devAddr s.build.regOutBase sampleBytes) s).andThen fun r s =>
    let s := s.setSeqResult r.res
    .done () <|
      if r.res = .success then (((s.loadBuf r.bytes).convert.emitFrame).setReady false).setPhase .idle
      else s.abandonCycle).state

/-- The agent is stuck in a transaction that is never answered and has no further step (60_exceptions R305). -/
def State.stuckAgent (who : Agent) (s : State) : Bool :=
  match s.hung with
  | some h => h.who == who
  | none => false

/-- The sequencer's turn: the one enabled transition of R223, or a hold (R227). A sequencer stuck in a transaction has
no further step (60_exceptions R305). PHASE Reading and Emitting go on whatever READY holds (log entry 10). -/
def seqTurn (s : State) : State :=
  if s.stuckAgent .seq then s
  else if s.run then
    match s.phase with
    | .idle => if s.ready then seqArm s else s
    | .reading => seqStatus s
    | .emitting => seqEmit s
  else s

end Sys2Proof.Machine
end

