-- ==== Sys2Proof/Machine/Dispatch.lean ====
section
/-! DEFINITION. One arm per command: each calls its meaning. -/

namespace Sys2Proof.Machine

def exec (i : Instr) (s : State) : Host.Outcome State Fault Refusal :=
  match i with
  | .probe dev => Sys2Proof.Machine.execProbe dev s
  | .rdreg dev reg => Sys2Proof.Machine.execRdreg dev reg s
  | .wrreg dev reg data => Sys2Proof.Machine.execWrreg dev reg data s
  | .rdburst dev reg count => Sys2Proof.Machine.execRdburst dev reg count s
  | .scan => Sys2Proof.Machine.execScan s
  | .config => Sys2Proof.Machine.execConfig s
  | .ldbuf idx data => Sys2Proof.Machine.execLdbuf idx data s
  | .convert => Sys2Proof.Machine.execConvert s
  | .emit => Sys2Proof.Machine.execEmit s
  | .start => Sys2Proof.Machine.execStart s

end Sys2Proof.Machine
end

