-- ==== Sys2Proof/Machine/HostMap.lean ====
section
/-! DEFINITION. The host register map (10_state R54): the word a host read returns at each offset. -/

namespace Sys2Proof.Machine

/-- Byte 4k+j of an array is bits [8j+7:8j] of its word k (20_memory R74); a byte past the array's end reads 0. -/
def packWord (bytes : List Byte) (k : Nat) : Word :=
  bytes.getD (4 * k + 3) 0x00#8 ++ bytes.getD (4 * k + 2) 0x00#8 ++ bytes.getD (4 * k + 1) 0x00#8 ++
    bytes.getD (4 * k) 0x00#8

/-- RESULT at 0x04: [2:0] CMD_RESULT, [9:8] SEQ_RESULT. -/
def resultWord (s : State) : Word := 0#22 ++ s.seqResult.code ++ 0#5 ++ s.cmdResult.code

/-- SCHED at 0x0C: [0] RUN, [1] READY, [3:2] SCHED_STATE, [4] MODE. -/
def schedWord (s : State) : Word :=
  0#27 ++ modeBit s.build.mode ++ schedState s.phase s.ready ++ BitVec.ofBool s.ready ++ BitVec.ofBool s.run

/-- DIAG at 0x18: [7:0] LAST_STATUS, [15:8] IDENT, [17:16] CFG_WROTE. -/
def diagWord (s : State) : Word := 0#14 ++ s.cfgWrote ++ s.ident ++ s.lastStatus

/-- The word at an offset of the host register map (10_state R54). Every other offset is reserved and reads 0. -/
def hostWord (s : State) (offset : Nat) : Word :=
  if offset = 0x00 then s.cmdLast
  else if offset = 0x04 then resultWord s
  else if offset = 0x08 then s.rdata.setWidth 32
  else if offset = 0x0C then schedWord s
  else if offset = 0x10 then s.errCount
  else if offset = 0x14 then s.frameCount
  else if offset = 0x18 then diagWord s
  else if 0x20 ≤ offset ∧ offset < 0x30 ∧ offset % 4 = 0 then
    s.present.extractLsb' (32 * ((offset - 0x20) / 4)) 32
  else if 0x40 ≤ offset ∧ offset < 0x40 + burstMax ∧ offset % 4 = 0 then
    packWord s.buf.toList ((offset - 0x40) / 4)
  else if 0x60 ≤ offset ∧ offset < 0x70 ∧ offset % 4 = 0 then
    packWord (s.frame.take (flen s.build.mode)) ((offset - 0x60) / 4)
  else 0x00000000#32

end Sys2Proof.Machine
end

