-- ==== Sys2Proof/Machine/Turns.lean ====
section
/-! DEFINITION. What each agent's turn does (10_state R30): the host's accesses, with the issue step of 30_encoding R112,
the tick, the sequencer; and how one command word is placed as the next turn. -/

namespace Sys2Proof.Machine

/-- Only aligned 32-bit host accesses have a meaning (10_state R57). -/
def HostAccess.legal : HostAccess → Bool
  | .write offset width _ => width == 4 && offset % 4 == 0
  | .read offset width => width == 4 && offset % 4 == 0

/-- A host write to offset 0x00 (30_encoding R112): CMD_LAST first, then the decoder, then the command. -/
def hostCommand (w : Word) (s : State) : Host.Outcome State Fault Refusal :=
  match decode w with
  | .ok i => exec i (s.setCmdLast w)
  | .error _ => .next ((s.setCmdLast w).setCmdResult .illegalCommand)

/-- One host access. A write to any other offset than 0x00 changes no state (10_state R56); a read returns the word as it
stands between two steps and has no side effect (R55). -/
def hostAccess (a : HostAccess) (s : State) : Host.Outcome State Fault Refusal :=
  if a.legal then
    match a with
    | .write offset _ value => if offset = 0x00 then hostCommand value s else .next s
    | .read offset _ => .next (s.noteRead offset (hostWord s offset))
  else .refused .hostAccess

/-- The host's turn. A host stuck in a transaction that is never answered has no further step (60_exceptions R305). -/
def hostTurn (a : HostAccess) (s : State) : Host.Outcome State Fault Refusal :=
  if s.stuckAgent .host then .next s else hostAccess a s

/-- One turn, by the agent it belongs to (10_state R30). A reset in the middle of a run is refused (70_reset_and_hazards
R340). -/
def takeTurn (t : Turn) (s : State) : Host.Outcome State Fault Refusal :=
  match t with
  | .host a => hostTurn a s
  | .tick => .next (tick s)
  | .seq => .next (seqTurn s)
  | .reset => .refused .midRunReset

/-- The next step of the block: the first of the coming turns is taken off and taken. With no turn listed, the sequencer
moves, the one agent that needs no input, or holds (42_sampling_scheduler R227; log entry 4). -/
def nextTurn (s : State) : Host.Outcome State Fault Refusal :=
  match s.turns with
  | t :: rest => takeTurn t { s with turns := rest }
  | [] => .next (seqTurn s)

/-- The host writes one command word next: the word stands at the head of the coming turns, and a host that was stuck is
not (log entry 5). -/
def placeCommand (w : Word) (s : State) : State :=
  { s with
    turns := .host (.write 0x00 4 w) :: s.turns
    hung := if s.stuckAgent .host then none else s.hung }

end Sys2Proof.Machine
end

