-- ==== Sys2Proof/Machine/Step.lean ====
section
/-! DEFINITION. One step of the block, and where a command word is placed so that the next step runs it. -/

namespace Sys2Proof.Machine

/-- One step: one agent's turn (10_state R30). -/
def step (s : State) : Host.Outcome State Fault Refusal := nextTurn s

/-- The state with the command word `w` (its bits from nbits up 0) as the host's very next write to offset 0x00, which is
where the block takes its commands from (30_encoding R112; log entry 5). -/
def State.withFetchWord (s : State) (nbits w : Nat) : State := placeCommand (BitVec.ofNat 32 (w % 2 ^ nbits)) s

end Sys2Proof.Machine
end

