-- ==== Sys2Proof/Machine/Assembler.lean ====
section
/-! DEFINITION. The assembly surface of the command port (30_encoding R119, R120): a line's text, the instruction or
pseudo-instruction it names, and its words. No step of the block uses it. -/

namespace Sys2Proof.Machine

/-- A line of assembly: a command, or one of the four pseudo-instructions of R120. -/
inductive AsmLine where
  | command (i : Instr)
  | ldraw (b0 b1 b2 b3 b4 b5 : Byte)
  | rdaxes (dev : DevAddr)
  | rdstatus (dev : DevAddr)
  | rdident (dev : DevAddr)
deriving DecidableEq, Repr

/-- The fixed expansions of R120; a command stands for itself. -/
def AsmLine.expand (b : Build) : AsmLine → List Instr
  | .command i => [i]
  | .ldraw b0 b1 b2 b3 b4 b5 =>
      [.ldbuf 0#8 b0, .ldbuf 1#8 b1, .ldbuf 2#8 b2, .ldbuf 3#8 b3, .ldbuf 4#8 b4, .ldbuf 5#8 b5]
  | .rdaxes dev => [.rdburst dev b.regOutBase 6#8]
  | .rdstatus dev => [.rdreg dev b.regStatus]
  | .rdident dev => [.rdreg dev b.regIdent]

/-- A line's words; "an assembler refuses … any RDBURST or LDBUF operand that breaks rule R106 or rule R107" (R119). -/
def AsmLine.assemble (b : Build) (l : AsmLine) : Option (List Word) :=
  if (l.expand b).all Instr.wf then some ((l.expand b).map encode) else none

/-- The value of one digit below the base. -/
def digitValue (base : Nat) (c : Char) : Option Nat :=
  let v :=
    if '0'.toNat ≤ c.toNat ∧ c.toNat ≤ '9'.toNat then some (c.toNat - '0'.toNat)
    else if 'A'.toNat ≤ c.toNat ∧ c.toNat ≤ 'F'.toNat then some (c.toNat - 'A'.toNat + 10)
    else if 'a'.toNat ≤ c.toNat ∧ c.toNat ≤ 'f'.toNat then some (c.toNat - 'a'.toNat + 10)
    else none
  v.filter (· < base)

/-- The digits of a number onto `acc`, most significant first. -/
def digitsValue (base : Nat) : (acc : Nat) → List Char → Option Nat
  | acc, [] => some acc
  | acc, c :: cs => (digitValue base c).bind fun d => digitsValue base (base * acc + d) cs

/-- "Numbers are decimal or `0x` hexadecimal" (R119). -/
def readNumber : List Char → Option Nat
  | [] => none
  | ['0', 'x'] => none
  | '0' :: 'x' :: ds => digitsValue 16 0 ds
  | ds => digitsValue 10 0 ds

/-- The operands of a line, "separated by commas" (R119), each without its blanks. -/
def splitCommas : List Char → List (List Char)
  | [] => [[]]
  | c :: cs =>
    match splitCommas cs with
    | [] => [[c]]
    | f :: fs => if c = ',' then [] :: f :: fs else if c = ' ' then f :: fs else (c :: f) :: fs

/-- A line's operands as numbers; a line with nothing after the mnemonic has none. -/
def readOperands (cs : List Char) : Option (List Nat) :=
  if cs.all (· = ' ') then some [] else (splitCommas cs).mapM readNumber

/-- "An assembler refuses any operand that does not fit its field" (R119). -/
def fitField (w n : Nat) : Option (BitVec w) := if n < 2 ^ w then some (BitVec.ofNat w n) else none

/-- The line a mnemonic with its operands stands for (the forms of R119 and R120). -/
def lineOf (mnemonic : List Char) (ops : List Nat) : Option AsmLine :=
  if mnemonic = ['P', 'R', 'O', 'B', 'E'] then
    match ops with
    | [dev] => do return .command (.probe (← fitField 7 dev))
    | _ => none
  else if mnemonic = ['R', 'D', 'R', 'E', 'G'] then
    match ops with
    | [dev, reg] => do return .command (.rdreg (← fitField 7 dev) (← fitField 8 reg))
    | _ => none
  else if mnemonic = ['W', 'R', 'R', 'E', 'G'] then
    match ops with
    | [dev, reg, data] => do
        return .command (.wrreg (← fitField 7 dev) (← fitField 8 reg) (← fitField 8 data))
    | _ => none
  else if mnemonic = ['R', 'D', 'B', 'U', 'R', 'S', 'T'] then
    match ops with
    | [dev, reg, count] => do
        return .command (.rdburst (← fitField 7 dev) (← fitField 8 reg) (← fitField 8 count))
    | _ => none
  else if mnemonic = ['L', 'D', 'B', 'U', 'F'] then
    match ops with
    | [idx, data] => do return .command (.ldbuf (← fitField 8 idx) (← fitField 8 data))
    | _ => none
  else if mnemonic = ['L', 'D', 'R', 'A', 'W'] then
    match ops with
    | [b0, b1, b2, b3, b4, b5] => do
        return .ldraw (← fitField 8 b0) (← fitField 8 b1) (← fitField 8 b2) (← fitField 8 b3) (← fitField 8 b4)
          (← fitField 8 b5)
    | _ => none
  else if mnemonic = ['R', 'D', 'A', 'X', 'E', 'S'] then
    match ops with
    | [dev] => do return .rdaxes (← fitField 7 dev)
    | _ => none
  else if mnemonic = ['R', 'D', 'S', 'T', 'A', 'T', 'U', 'S'] then
    match ops with
    | [dev] => do return .rdstatus (← fitField 7 dev)
    | _ => none
  else if mnemonic = ['R', 'D', 'I', 'D', 'E', 'N', 'T'] then
    match ops with
    | [dev] => do return .rdident (← fitField 7 dev)
    | _ => none
  else
    match ops with
    | [] =>
        if mnemonic = ['S', 'C', 'A', 'N'] then some (.command .scan)
        else if mnemonic = ['C', 'O', 'N', 'F', 'I', 'G'] then some (.command .config)
        else if mnemonic = ['C', 'O', 'N', 'V', 'E', 'R', 'T'] then some (.command .convert)
        else if mnemonic = ['E', 'M', 'I', 'T'] then some (.command .emit)
        else if mnemonic = ['S', 'T', 'A', 'R', 'T'] then some (.command .start)
        else none
    | _ => none

/-- "The mnemonic comes first, then operands separated by commas" (R119). -/
def readLine (cs : List Char) : Option AsmLine :=
  (readOperands (cs.dropWhile (· ≠ ' '))).bind (lineOf (cs.takeWhile (· ≠ ' ')))

/-- The words of a line's text in a build, none where the assembler refuses it (R119, R120). -/
def assembleText (b : Build) (text : List Char) : Option (List Word) := (readLine text).bind (AsmLine.assemble b)

end Sys2Proof.Machine
end

