-- ==== Sys2Proof/Safety.lean ====
section
/-! DEFINITION. The terms claims are stated in: what an answer of the environment amounts to, whose turn is next, the shape
of frames and of OUT, the shape of BUS_LOG, and the invariant of the block. -/

namespace Sys2Proof.Machine

/-- The Transaction Result of an answer (20_memory R78), none where the transaction never completes. -/
def resultOf : BusAnswer → Option TxResult
  | .served _ => some .success
  | .noAck => some .noAck
  | .busError => some .busError
  | .silent => none

/-- The bytes of an answer that serves a read of n bytes, none of the others (00_scope R13: "absent otherwise"). -/
def dataOf (n : Nat) : BusAnswer → Option (List Byte)
  | .served data => some (data.toList.take n)
  | .noAck => none
  | .busError => none
  | .silent => none

/-- The one byte of an answer that serves a one-byte read; the old value where nothing was served (40_bus_transactions
R145). -/
def byteOr (old : Byte) : BusAnswer → Byte
  | .served data => data[0]
  | .noAck => old
  | .busError => old
  | .silent => old

/-- What the environment does with the k-th transaction from now on, if that is `t` (20_memory R78). -/
def State.answerAt (s : State) (k : Nat) (t : BusTxn) : BusAnswer :=
  (s.answers.drop k).headD (Config.busOracle (s.asked + k) t)

/-- The first byte of a served answer differs from the reference, or the answer served nothing (40_bus_transactions R175:
"a failed control-register read counts as differs"). -/
def differsFrom (ref : Byte) : BusAnswer → Bool
  | .served data => data[0] != ref
  | .noAck => true
  | .busError => true
  | .silent => true

/-- The sequencer moves next, and `rest` are the turns after it. -/
def State.seqNext (s : State) (rest : List Turn) : Prop := s.turns = .seq :: rest ∨ (s.turns = [] ∧ rest = [])

/-- The host writes `w` to offset 0x00 next, `rest` are the turns after it, and the host is not stuck. -/
def State.hostWrites (s : State) (w : Word) (rest : List Turn) : Prop :=
  s.turns = .host (.write 0x00 4 w) :: rest ∧ s.stuckAgent .host = false

/-- A frame of FLEN(MODE) bytes between the sentinels (43_conversion_framing R271). -/
def frameShape (m : Mode) (f : List Byte) : Prop :=
  f.length = flen m ∧ ∃ payload, f = frameHeader :: (payload ++ [frameFooter])

/-- The bytes are a concatenation of n whole frames (42_sampling_scheduler R233). -/
def wholeFrames (m : Mode) (out : List Byte) (n : Nat) : Prop :=
  ∃ fs : List (List Byte), out = fs.flatten ∧ fs.length = n ∧ ∀ f ∈ fs, frameShape m f

/-- An entry of BUS_LOG as 10_state R52 and 20_memory R78 allow it: never Timeout; the bytes of a successful read, exactly
as many as it asked for and at most BURST_MAX, and no bytes otherwise. -/
def BusEntry.legal (e : BusEntry) : Prop :=
  e.res ≠ .timeout ∧
    match e.txn, e.res with
    | .read _ _ n, .success => n ≤ burstMax ∧ ∃ d, e.data = some d ∧ d.length = n
    | _, _ => e.data = none

/-- The number of transactions in flight: at most one (20_memory R89). -/
def State.inFlight (s : State) : Nat := if s.hung.isSome then 1 else 0

/-- Who is stuck, and in what (60_exceptions R305): the host only while RUN = 0, the sequencer only while RUN = 1 and in
the transaction of its phase. -/
def State.hangLegal (s : State) : Prop :=
  ∀ h, s.hung = some h →
    (h.who = .host ∧ s.run = false) ∨
    (h.who = .seq ∧ s.run = true ∧
      ((s.phase = .reading ∧ h.txn = .read s.build.devAddr s.build.regStatus 1) ∨
       (s.phase = .emitting ∧ h.txn = .read s.build.devAddr s.build.regOutBase sampleBytes)))

/-- The invariant of the block: what holds at reset and what every step keeps. -/
structure State.Inv (s : State) : Prop where
  /-- 10_state R50 -/
  frame : frameShape s.build.mode s.frame
  /-- 10_state R41, and the sequencer leaves Idle only while RUN = 1 (42_sampling_scheduler R223) -/
  armed : s.phase ≠ .idle → s.ready = true ∧ s.run = true
  /-- 60_exceptions R304 -/
  noTimeout : s.cmdResult ≠ .timeout ∧ s.seqResult ≠ .timeout
  /-- 60_exceptions R305 -/
  hang : s.hangLegal
  /-- 10_state R52, 20_memory R89: every transaction issued is logged, but for the one in flight -/
  logged : s.asked = s.busLog.length + s.inFlight
  /-- 10_state R52 -/
  logLegal : ∀ e ∈ s.busLog, e.legal
  /-- 42_sampling_scheduler R233, 10_state R44 -/
  output : ∃ n, wholeFrames s.build.mode s.out n ∧ s.frameCount = BitVec.ofNat 32 n

end Sys2Proof.Machine
end

