-- ==== Sys2Proof/Certificates/Slice0/Obligations.lean ====
section
/-! DEFINITION. The statements for the provers, one def Obligations.<Name> : Prop each. -/

open Sys2Proof Sys2Proof.Machine

/-! ## Encoding -/

/-- Decode and encode agree (30_encoding R101, R103, R109, R110, R119): every legal command, with every operand at every
value its field admits, is read back from its own word. -/
def Obligations.DecodeOfEncodeIsIdentity : Prop :=
  ∀ i : Instr, i.wf = true → decode (encode i) = .ok i

/-- The other direction (30_encoding R108, R110): a word that decodes is the encoding of what it decodes to, so no bit of
an accepted word is dropped, and its operands are legal. -/
def Obligations.AcceptedWordIsItsOwnEncoding : Prop :=
  ∀ (w : Word) (i : Instr), decode w = .ok i → encode i = w ∧ i.wf = true

/-- 30_encoding R109: at most one row's mask and match accept any word. -/
def Obligations.OpcodeRowsNeverOverlap : Prop :=
  ∀ (w : Word) (j k : Fin opcodeMap.length),
    opcodeMap[j].accepts w = true → opcodeMap[k].accepts w = true → j = k

/-- 30_encoding R121: the worked encodings, legal and illegal. -/
def Obligations.WorkedEncodingsDecode : Prop :=
  (encode (.probe 0x18#7) = 0x00001801#32 ∧ decode 0x00001801#32 = .ok (.probe 0x18#7)) ∧
  (encode (.rdreg 0x18#7 0x27#8) = 0x00271802#32 ∧ decode 0x00271802#32 = .ok (.rdreg 0x18#7 0x27#8)) ∧
  (encode (.wrreg 0x18#7 0x20#8 0x57#8) = 0x57201803#32 ∧
    decode 0x57201803#32 = .ok (.wrreg 0x18#7 0x20#8 0x57#8)) ∧
  (encode (.rdburst 0x18#7 0x28#8 6#8) = 0x06281804#32 ∧
    decode 0x06281804#32 = .ok (.rdburst 0x18#7 0x28#8 6#8)) ∧
  (encode (.ldbuf 5#8 0x10#8) = 0x10050007#32 ∧ decode 0x10050007#32 = .ok (.ldbuf 5#8 0x10#8)) ∧
  (encode .scan = 0x00000005#32 ∧ decode 0x00000005#32 = .ok .scan) ∧
  (encode .start = 0x0000000A#32 ∧ decode 0x0000000A#32 = .ok .start) ∧
  (∃ e, decode 0x00009801#32 = .error e) ∧ (∃ e, decode 0x00281804#32 = .error e) ∧
  (∃ e, decode 0x02FF1804#32 = .error e)

/-- 30_encoding R111: a word with a reserved OP (0x00, 0x0B to 0xFF) is an illegal command: in every state it changes
CMD_LAST and CMD_RESULT, and nothing else happens. -/
def Obligations.ReservedOpIsIllegalCommand : Prop :=
  ∀ (w : Word) (s : State) (rest : List Turn),
    w.toNat % 256 = 0 ∨ 0x0B ≤ w.toNat % 256 → s.hostWrites w rest →
    step s = .next { s with turns := rest, cmdLast := w, cmdResult := .illegalCommand }

/-- 30_encoding R103, R108: RSV and every field the format does not use are 0 in an accepted word. -/
def Obligations.AcceptedWordHasReservedBitsClear : Prop :=
  ∀ (w : Word) (i : Instr), decode w = .ok i →
    w.getLsbD 15 = false ∧
    match i with
    | .probe _ => w.toNat / 2 ^ 16 = 0
    | .rdreg _ _ => w.toNat / 2 ^ 24 = 0
    | .wrreg _ _ _ => True
    | .rdburst _ _ _ => True
    | .ldbuf _ _ => w.toNat / 2 ^ 8 % 2 ^ 8 = 0
    | .scan => w.toNat / 2 ^ 8 = 0
    | .config => w.toNat / 2 ^ 8 = 0
    | .convert => w.toNat / 2 ^ 8 = 0
    | .emit => w.toNat / 2 ^ 8 = 0
    | .start => w.toNat / 2 ^ 8 = 0

/-- 30_encoding R102: the operands are the unsigned fields w[14:8], w[23:16] and w[31:24]. -/
def Obligations.OperandsAreUnsignedFields : Prop :=
  ∀ (w : Word) (i : Instr), decode w = .ok i →
    match i with
    | .probe dev => dev.toNat = w.toNat / 2 ^ 8 % 2 ^ 7
    | .rdreg dev reg => dev.toNat = w.toNat / 2 ^ 8 % 2 ^ 7 ∧ reg.toNat = w.toNat / 2 ^ 16 % 2 ^ 8
    | .wrreg dev reg data =>
        dev.toNat = w.toNat / 2 ^ 8 % 2 ^ 7 ∧ reg.toNat = w.toNat / 2 ^ 16 % 2 ^ 8 ∧ data.toNat = w.toNat / 2 ^ 24
    | .rdburst dev reg count =>
        dev.toNat = w.toNat / 2 ^ 8 % 2 ^ 7 ∧ reg.toNat = w.toNat / 2 ^ 16 % 2 ^ 8 ∧ count.toNat = w.toNat / 2 ^ 24
    | .ldbuf idx data => idx.toNat = w.toNat / 2 ^ 16 % 2 ^ 8 ∧ data.toNat = w.toNat / 2 ^ 24
    | .scan => True
    | .config => True
    | .convert => True
    | .emit => True
    | .start => True

/-- 30_encoding R106, R107: RDBURST and LDBUF words decode exactly when their operands are in range. -/
def Obligations.OperandRangesDecideLegality : Prop :=
  (∀ (dev : DevAddr) (reg : RegAddr) (count : BitVec 8),
    (∃ i, decode (commandWord 0x04#8 dev reg count) = .ok i) ↔
      1 ≤ count.toNat ∧ count.toNat ≤ burstMax ∧ reg.toNat + count.toNat ≤ 256) ∧
  (∀ idx data : BitVec 8,
    (∃ i, decode (commandWord 0x07#8 0#7 idx data) = .ok i) ↔ idx.toNat < burstMax)

/-- 30_encoding R119, R120: where the assembler accepts a line, each of its words decodes to the instruction the line
stands for, in order; it accepts exactly the lines whose operands R106 and R107 allow; and a command stands for itself, the
four pseudo-instructions for R120's expansions. -/
def Obligations.AssembledLinesDecodeToTheirExpansion : Prop :=
  (∀ (b : Build) (i : Instr), (AsmLine.command i).expand b = [i]) ∧
  (∀ (b : Build) (b0 b1 b2 b3 b4 b5 : Byte), (AsmLine.ldraw b0 b1 b2 b3 b4 b5).expand b =
    [.ldbuf 0#8 b0, .ldbuf 1#8 b1, .ldbuf 2#8 b2, .ldbuf 3#8 b3, .ldbuf 4#8 b4, .ldbuf 5#8 b5]) ∧
  (∀ (b : Build) (dev : DevAddr),
    (AsmLine.rdaxes dev).expand b = [.rdburst dev b.regOutBase 6#8] ∧
    (AsmLine.rdstatus dev).expand b = [.rdreg dev b.regStatus] ∧
    (AsmLine.rdident dev).expand b = [.rdreg dev b.regIdent]) ∧
  ∀ (b : Build) (l : AsmLine),
    (∀ ws, l.assemble b = some ws → ws.map decode = (l.expand b).map Except.ok) ∧
    ((l.assemble b).isSome = true ↔ ∀ i ∈ l.expand b, i.wf = true)

/-! ## The issue step -/

/-- A step runs the decoded instruction (30_encoding R112): when the host's next write to offset 0x00 is a word that
decodes to i, the step is exec of i, after the write has left the turns and stood in CMD_LAST. -/
def Obligations.StepRunsTheDecodedCommand : Prop :=
  ∀ (s : State) (w : Word) (rest : List Turn) (i : Instr),
    s.hostWrites w rest → decode w = .ok i → step s = exec i { s with turns := rest, cmdLast := w }

/-- 30_encoding R113, R114, 60_exceptions R302: an ill-formed word gives IllegalCommand whatever RUN holds, a well-formed
one while RUN = 1 gives Busy, and neither changes anything but CMD_LAST and CMD_RESULT, BUS_LOG included. -/
def Obligations.RefusedCommandsChangeOnlyCmdRegisters : Prop :=
  ∀ (s : State) (w : Word) (rest : List Turn), s.hostWrites w rest →
    ((∃ e, decode w = .error e) →
      step s = .next { s with turns := rest, cmdLast := w, cmdResult := .illegalCommand }) ∧
    (∀ i, decode w = .ok i → s.run = true →
      step s = .next { s with turns := rest, cmdLast := w, cmdResult := .busy })

/-- The same of every instruction's meaning (30_encoding R106, R107, R113, R114): illegal operands first, then RUN = 1. -/
def Obligations.EveryCommandIsTurnedAwayAlike : Prop :=
  ∀ (i : Instr) (s : State),
    (i.wf = false → exec i s = .next { s with cmdResult := .illegalCommand }) ∧
    (i.wf = true → s.run = true → exec i s = .next { s with cmdResult := .busy })

/-- 60_exceptions R301: no command traps, jumps or stops: every instruction answers a next state in every state, and so
does every step but a host access that is no aligned word and a reset in the middle of a run (10_state R57,
70_reset_and_hazards R340). -/
def Obligations.NoCommandStopsTheMachine : Prop :=
  (∀ (i : Instr) (s : State), ∃ t, exec i s = .next t) ∧
  (∀ s : State,
    (∃ t, step s = .next t) ∨
    (step s = .refused .hostAccess ∧ ∃ a rest, s.turns = .host a :: rest ∧ a.legal = false) ∨
    (step s = .refused .midRunReset ∧ ∃ rest, s.turns = .reset :: rest))

/-! ## Bus commands -/

/-- PROBE (40_bus_transactions R140): its words, its one transaction, PRESENT[dev] and CMD_RESULT for every answer, and
nothing else; with no answer the host is stuck (field `hung`, 10_state R60(b), 60_exceptions R305). -/
def Obligations.ProbeRecordsTheAnswer : Prop :=
  (∀ w : Word, w &&& 0xFFFF80FF#32 = 0x00000001#32 → decode w = .ok (.probe (fieldDev w))) ∧
  ∀ (dev : DevAddr) (s : State), s.run = false →
    (∀ r, resultOf (s.nextAnswer (.probe dev)) = some r →
      ∃ t, exec (.probe dev) s = .next t ∧
        (∀ a, presentBit t.present a = if a = dev then decide (r = .success) else presentBit s.present a) ∧
        t = { s with
          present := t.present, cmdResult := .ofTx r
          busLog := s.busLog ++ [⟨.probe dev, r, none⟩]
          answers := s.answers.tail, asked := s.asked + 1 }) ∧
    (s.nextAnswer (.probe dev) = .silent →
      exec (.probe dev) s = .next { s with
        hung := some ⟨.host, .probe dev⟩, answers := s.answers.tail, asked := s.asked + 1 })

/-- RDREG (40_bus_transactions R150): one one-byte read; RDATA is the byte on Success and keeps its value otherwise. -/
def Obligations.RdregLoadsRdataOnSuccess : Prop :=
  (∀ w : Word, w &&& 0xFF0080FF#32 = 0x00000002#32 → decode w = .ok (.rdreg (fieldDev w) (fieldReg w))) ∧
  ∀ (dev : DevAddr) (reg : RegAddr) (s : State), s.run = false →
    (∀ data, s.nextAnswer (.read dev reg 1) = .served data →
      exec (.rdreg dev reg) s = .next { s with
        rdata := data[0], cmdResult := .success
        busLog := s.busLog ++ [⟨.read dev reg 1, .success, some [data[0]]⟩]
        answers := s.answers.tail, asked := s.asked + 1 }) ∧
    (∀ r, resultOf (s.nextAnswer (.read dev reg 1)) = some r → r ≠ .success →
      exec (.rdreg dev reg) s = .next { s with
        cmdResult := .ofTx r, busLog := s.busLog ++ [⟨.read dev reg 1, r, none⟩]
        answers := s.answers.tail, asked := s.asked + 1 }) ∧
    (s.nextAnswer (.read dev reg 1) = .silent →
      exec (.rdreg dev reg) s = .next { s with
        hung := some ⟨.host, .read dev reg 1⟩, answers := s.answers.tail, asked := s.asked + 1 })

/-- WRREG (40_bus_transactions R155): one one-byte write; CMD_RESULT only. -/
def Obligations.WrregReportsTheWrite : Prop :=
  (∀ w : Word, w &&& 0x000080FF#32 = 0x00000003#32 →
    decode w = .ok (.wrreg (fieldDev w) (fieldReg w) (fieldData w))) ∧
  ∀ (dev : DevAddr) (reg : RegAddr) (data : Byte) (s : State), s.run = false →
    (∀ r, resultOf (s.nextAnswer (.write dev reg data)) = some r →
      exec (.wrreg dev reg data) s = .next { s with
        cmdResult := .ofTx r, busLog := s.busLog ++ [⟨.write dev reg data, r, none⟩]
        answers := s.answers.tail, asked := s.asked + 1 }) ∧
    (s.nextAnswer (.write dev reg data) = .silent →
      exec (.wrreg dev reg data) s = .next { s with
        hung := some ⟨.host, .write dev reg data⟩, answers := s.answers.tail, asked := s.asked + 1 })

/-- RDBURST (40_bus_transactions R160, R161): one transaction whatever the count; BUF[0..count-1] on Success, the rest of
BUF unchanged, and all of BUF unchanged on a failure; a count of 0 or above BURST_MAX, or a range past 0xFF, is illegal and
issues no transaction. -/
def Obligations.RdburstFillsBufInOneTransaction : Prop :=
  (∀ w : Word, w &&& 0x000080FF#32 = 0x00000004#32 → 1 ≤ (fieldData w).toNat → (fieldData w).toNat ≤ 32 →
    (fieldReg w).toNat + (fieldData w).toNat ≤ 256 →
    decode w = .ok (.rdburst (fieldDev w) (fieldReg w) (fieldData w))) ∧
  (∀ (dev : DevAddr) (reg : RegAddr) (count : BitVec 8) (s : State),
    count.toNat = 0 ∨ 32 < count.toNat ∨ 256 < reg.toNat + count.toNat →
    exec (.rdburst dev reg count) s = .next { s with cmdResult := .illegalCommand }) ∧
  ∀ (dev : DevAddr) (reg : RegAddr) (count : BitVec 8) (s : State),
    (Instr.rdburst dev reg count).wf = true → s.run = false →
    (∀ data, s.nextAnswer (.read dev reg count.toNat) = .served data →
      ∃ t, exec (.rdburst dev reg count) s = .next t ∧
        (∀ k, (hk : k < burstMax) → t.buf[k] = if k < count.toNat then data[k] else s.buf[k]) ∧
        t = { s with
          buf := t.buf, cmdResult := .success
          busLog := s.busLog ++ [⟨.read dev reg count.toNat, .success, some (data.toList.take count.toNat)⟩]
          answers := s.answers.tail, asked := s.asked + 1 }) ∧
    (∀ r, resultOf (s.nextAnswer (.read dev reg count.toNat)) = some r → r ≠ .success →
      exec (.rdburst dev reg count) s = .next { s with
        cmdResult := .ofTx r, busLog := s.busLog ++ [⟨.read dev reg count.toNat, r, none⟩]
        answers := s.answers.tail, asked := s.asked + 1 }) ∧
    (s.nextAnswer (.read dev reg count.toNat) = .silent →
      exec (.rdburst dev reg count) s = .next { s with
        hung := some ⟨.host, .read dev reg count.toNat⟩, answers := s.answers.tail, asked := s.asked + 1 })

/-- SCAN (40_bus_transactions R170), with every probe answered: 128 probes in ascending order, PRESENT[a] set exactly where
address a acknowledged, BusError if any probe hit a line-level fault, and nothing else changed; with an unanswered probe
the host is stuck in it and CMD_RESULT is not written. -/
def Obligations.ScanProbesEveryAddressInOrder : Prop :=
  decode 0x00000005#32 = .ok .scan ∧
  (∀ (s : State) (k : Nat), s.run = false → k < 128 →
    (∀ a < k, s.answerAt a (.probe (BitVec.ofNat 7 a)) ≠ .silent) →
    s.answerAt k (.probe (BitVec.ofNat 7 k)) = .silent →
    ∃ t, exec .scan s = .next t ∧ t.hung = some ⟨.host, .probe (BitVec.ofNat 7 k)⟩ ∧ t.cmdResult = s.cmdResult) ∧
  ∀ (s : State) (r : Nat → TxResult), s.run = false →
    (∀ a < 128, resultOf (s.answerAt a (.probe (BitVec.ofNat 7 a))) = some (r a)) →
    ∃ t, exec .scan s = .next t ∧
      (∀ a : DevAddr, presentBit t.present a = decide (r a.toNat = .success)) ∧
      t = { s with
        present := t.present
        cmdResult := if (List.range 128).any (fun a => r a == .busError) then .busError else .success
        busLog := s.busLog ++ (List.range 128).map fun a => ⟨.probe (BitVec.ofNat 7 a), r a, none⟩
        answers := s.answers.drop 128, asked := s.asked + 128 }

/-- SCAN with an unanswered probe (40_bus_transactions R170: "the scan never completes"; what stands in the registers then
is the model's reading, log entry 3): the host is stuck at that address, the probes before it are recorded, CMD_RESULT is
unchanged. -/
def Obligations.ScanStopsAtAnUnansweredProbe : Prop :=
  ∀ (s : State) (k : Nat) (r : Nat → TxResult), s.run = false → k < 128 →
    (∀ a < k, resultOf (s.answerAt a (.probe (BitVec.ofNat 7 a))) = some (r a)) →
    s.answerAt k (.probe (BitVec.ofNat 7 k)) = .silent →
    ∃ t, exec .scan s = .next t ∧
      (∀ a : DevAddr,
        presentBit t.present a = if a.toNat < k then decide (r a.toNat = .success) else presentBit s.present a) ∧
      t = { s with
        present := t.present, hung := some ⟨.host, .probe (BitVec.ofNat 7 k)⟩
        busLog := s.busLog ++ (List.range k).map fun a => ⟨.probe (BitVec.ofNat 7 a), r a, none⟩
        answers := s.answers.drop (k + 1), asked := s.asked + (k + 1) }

/-- CONFIG (40_bus_transactions R175), with every transaction answered: the three reads in order, then a write of each
control register that differs (or could not be read, or under CFG_POLICY = Always); IDENT only if its read succeeded;
CFG_WROTE's bits the successful writes; CMD_RESULT the first failure; nothing else changed. With an unanswered transaction
the host is stuck in the first such one, in the order CONFIG asks, and CFG_WROTE and CMD_RESULT are not written. -/
def Obligations.ConfigWritesWhatDiffers : Prop :=
  decode 0x00000006#32 = .ok .config ∧
  ∀ s : State, s.run = false →
    let b := s.build
    let ident := s.answerAt 0 (.read b.devAddr b.regIdent 1)
    let ctrlA := s.answerAt 1 (.read b.devAddr b.regCtrlA 1)
    let ctrlB := s.answerAt 2 (.read b.devAddr b.regCtrlB 1)
    let needA := decide (b.cfgPolicy = .always) || differsFrom b.ctrlRefA ctrlA
    let needB := decide (b.cfgPolicy = .always) || differsFrom b.ctrlRefB ctrlB
    let nA := if needA then 1 else 0
    let nB := if needB then 1 else 0
    let writeA := s.answerAt 3 (.write b.devAddr b.regCtrlA b.ctrlRefA)
    let writeB := s.answerAt (3 + nA) (.write b.devAddr b.regCtrlB b.ctrlRefB)
    let unanswered : Option BusTxn :=
      if ident = .silent then some (.read b.devAddr b.regIdent 1)
      else if ctrlA = .silent then some (.read b.devAddr b.regCtrlA 1)
      else if ctrlB = .silent then some (.read b.devAddr b.regCtrlB 1)
      else if needA = true ∧ writeA = .silent then some (.write b.devAddr b.regCtrlA b.ctrlRefA)
      else if needB = true ∧ writeB = .silent then some (.write b.devAddr b.regCtrlB b.ctrlRefB)
      else none
    (∀ txn, unanswered = some txn →
      ∃ t, exec .config s = .next t ∧ t.hung = some ⟨.host, txn⟩ ∧ t.cmdResult = s.cmdResult ∧
        t.cfgWrote = s.cfgWrote) ∧
    ∀ ri ra rb wa wb : TxResult,
    resultOf ident = some ri → resultOf ctrlA = some ra → resultOf ctrlB = some rb →
    (needA = true → resultOf writeA = some wa) → (needB = true → resultOf writeB = some wb) →
    ∃ t, exec .config s = .next t ∧
      (t.cfgWrote.getLsbD 0 = (needA && decide (wa = .success))) ∧
      (t.cfgWrote.getLsbD 1 = (needB && decide (wb = .success))) ∧
      t = { s with
        ident := byteOr s.ident ident
        cfgWrote := t.cfgWrote
        cmdResult := .ofTx
          (if ri ≠ .success then ri else if ra ≠ .success then ra else if rb ≠ .success then rb
           else if needA = true ∧ wa ≠ .success then wa else if needB = true then wb else .success)
        busLog := s.busLog ++
          [⟨.read b.devAddr b.regIdent 1, ri, dataOf 1 ident⟩, ⟨.read b.devAddr b.regCtrlA 1, ra, dataOf 1 ctrlA⟩,
           ⟨.read b.devAddr b.regCtrlB 1, rb, dataOf 1 ctrlB⟩] ++
          (if needA then [⟨.write b.devAddr b.regCtrlA b.ctrlRefA, wa, none⟩] else []) ++
          (if needB then [⟨.write b.devAddr b.regCtrlB b.ctrlRefB, wb, none⟩] else [])
        answers := s.answers.drop (3 + nA + nB), asked := s.asked + (3 + nA + nB) }

/-- CONFIG left in an unanswered transaction (40_bus_transactions R175: "the command never completes if any transaction
goes unanswered"; the rest is the model's reading, log entry 3): the host is stuck, and CFG_WROTE and CMD_RESULT, which the
pseudocode writes last, are unchanged, as is every register CONFIG does not write. For each transaction that may be the
first unanswered one: the host is stuck in it, IDENT is that of an answered identity read, and BUS_LOG has the entries of
the transactions before it. -/
def Obligations.UnansweredConfigNeverCompletes : Prop :=
  (∀ s t : State, s.run = false → s.hung = none → exec .config s = .next t → t.hung ≠ none →
    (∃ txn, t.hung = some ⟨.host, txn⟩) ∧
    t = { s with
      ident := t.ident, hung := t.hung, busLog := t.busLog, answers := t.answers, asked := t.asked }) ∧
  ∀ s : State, s.run = false →
    let b := s.build
    let readI := BusTxn.read b.devAddr b.regIdent 1
    let readA := BusTxn.read b.devAddr b.regCtrlA 1
    let readB := BusTxn.read b.devAddr b.regCtrlB 1
    let putA := BusTxn.write b.devAddr b.regCtrlA b.ctrlRefA
    let putB := BusTxn.write b.devAddr b.regCtrlB b.ctrlRefB
    let ident := s.answerAt 0 readI
    let ctrlA := s.answerAt 1 readA
    let ctrlB := s.answerAt 2 readB
    let needA := decide (b.cfgPolicy = .always) || differsFrom b.ctrlRefA ctrlA
    let needB := decide (b.cfgPolicy = .always) || differsFrom b.ctrlRefB ctrlB
    let nA := if needA then 1 else 0
    (ident = .silent →
      exec .config s = .next { s with
        hung := some ⟨.host, readI⟩, answers := s.answers.drop 1, asked := s.asked + 1 }) ∧
    ∀ ri : TxResult, resultOf ident = some ri →
      (ctrlA = .silent →
        exec .config s = .next { s with
          ident := byteOr s.ident ident, hung := some ⟨.host, readA⟩
          busLog := s.busLog ++ [⟨readI, ri, dataOf 1 ident⟩]
          answers := s.answers.drop 2, asked := s.asked + 2 }) ∧
      ∀ ra : TxResult, resultOf ctrlA = some ra →
        (ctrlB = .silent →
          exec .config s = .next { s with
            ident := byteOr s.ident ident, hung := some ⟨.host, readB⟩
            busLog := s.busLog ++ [⟨readI, ri, dataOf 1 ident⟩, ⟨readA, ra, dataOf 1 ctrlA⟩]
            answers := s.answers.drop 3, asked := s.asked + 3 }) ∧
        ∀ rb : TxResult, resultOf ctrlB = some rb →
          (needA = true → s.answerAt 3 putA = .silent →
            exec .config s = .next { s with
              ident := byteOr s.ident ident, hung := some ⟨.host, putA⟩
              busLog := s.busLog ++
                [⟨readI, ri, dataOf 1 ident⟩, ⟨readA, ra, dataOf 1 ctrlA⟩, ⟨readB, rb, dataOf 1 ctrlB⟩]
              answers := s.answers.drop 4, asked := s.asked + 4 }) ∧
          ∀ wa : TxResult, (needA = true → resultOf (s.answerAt 3 putA) = some wa) →
            needB = true → s.answerAt (3 + nA) putB = .silent →
            exec .config s = .next { s with
              ident := byteOr s.ident ident, hung := some ⟨.host, putB⟩
              busLog := s.busLog ++
                [⟨readI, ri, dataOf 1 ident⟩, ⟨readA, ra, dataOf 1 ctrlA⟩, ⟨readB, rb, dataOf 1 ctrlB⟩] ++
                (if needA then [⟨putA, wa, none⟩] else [])
              answers := s.answers.drop (4 + nA), asked := s.asked + (4 + nA) }

/-! ## Buffer, conversion and output commands -/

/-- LDBUF (43_conversion_framing R280): BUF[idx] and CMD_RESULT, for every legal index; any other index is an illegal
command. -/
def Obligations.LdbufWritesOneByte : Prop :=
  (∀ w : Word, w &&& 0x0000FFFF#32 = 0x00000007#32 → (fieldReg w).toNat < 32 →
    decode w = .ok (.ldbuf (fieldReg w) (fieldData w))) ∧
  (∀ (idx : BitVec 8) (data : Byte) (s : State), 32 ≤ idx.toNat →
    (∃ e, decode (commandWord 0x07#8 0#7 idx data) = .error e) ∧
    exec (.ldbuf idx data) s = .next { s with cmdResult := .illegalCommand }) ∧
  ∀ (idx : BitVec 8) (data : Byte) (s : State), idx.toNat < burstMax → s.run = false →
    ∃ t, exec (.ldbuf idx data) s = .next t ∧
      (∀ k, (hk : k < burstMax) → t.buf[k] = if k = idx.toNat then data else s.buf[k]) ∧
      t = { s with buf := t.buf, cmdResult := .success }

/-- CONVERT (43_conversion_framing R281): FRAME is Pack of BUF[0..5]; no transaction, no output. -/
def Obligations.ConvertPacksTheSample : Prop :=
  decode 0x00000008#32 = .ok .convert ∧
  ∀ s : State, s.run = false →
    exec .convert s = .next { s with
      frame := pack s.build #v[s.buf[0], s.buf[1], s.buf[2], s.buf[3], s.buf[4], s.buf[5]], cmdResult := .success }

/-- EMIT (43_conversion_framing R282): FRAME[0 .. FLEN-1] goes to OUT, FRAME_COUNT goes up by 1. -/
def Obligations.EmitSendsTheFrame : Prop :=
  decode 0x00000009#32 = .ok .emit ∧
  ∀ s : State, s.run = false →
    exec .emit s = .next { s with
      out := s.out ++ s.frame.take (flen s.build.mode), frameCount := s.frameCount + 1#32, cmdResult := .success }

/-- START (42_sampling_scheduler R222): RUN and CMD_RESULT; READY and PHASE are not changed. A second START is Busy. -/
def Obligations.StartSetsRun : Prop :=
  decode 0x0000000A#32 = .ok .start ∧
  ∀ s : State,
    (s.run = false → exec .start s = .next { s with run := true, cmdResult := .success }) ∧
    (s.run = true → exec .start s = .next { s with cmdResult := .busy })

/-! ## Conversion unit and frame packer -/

/-- 43_conversion_framing R261: the arithmetic shift of the sign-extended word is the source's form, the sign extension of
the bits left after the shift, for both shifts; and the ranges. -/
def Obligations.DecodeFormsAgree : Prop :=
  ∀ w : BitVec 16,
    decodeAxis 6 w = (w.extractLsb' 6 10).toInt ∧ decodeAxis 4 w = (w.extractLsb' 4 12).toInt ∧
    (-512 ≤ decodeAxis 6 w ∧ decodeAxis 6 w ≤ 511) ∧ (-2048 ≤ decodeAxis 4 w ∧ decodeAxis 4 w ≤ 2047) ∧
    (decodeAxis 6 w * 64 ≤ w.toInt ∧ w.toInt < decodeAxis 6 w * 64 + 64) ∧
    (decodeAxis 4 w * 16 ≤ w.toInt ∧ w.toInt < decodeAxis 4 w * 16 + 16)

/-- 43_conversion_framing R262, R266: the CountMode field of every word is two bytes, little-endian two's complement, that
read back as 4 times the decoded value: no wrap happens. -/
def Obligations.CountFieldReadsBack : Prop :=
  ∀ (b : Build) (w : BitVec 16), b.mode = .count →
    ∃ lo hi : Byte, axisField b w = [lo, hi] ∧ (hi ++ lo).toInt = 4 * decodeAxis 6 w ∧
      -2048 ≤ 4 * decodeAxis 6 w ∧ 4 * decodeAxis 6 w ≤ 2044

/-- 43_conversion_framing R263, R266: with PHYS_EVAL = Exact the PhysicalUnitMode field of every word is four bytes,
little-endian two's complement, that read back as v * 19612 / 1000 truncated toward zero: no wrap happens. -/
def Obligations.ExactPhysicalFieldReadsBack : Prop :=
  ∀ (b : Build) (w : BitVec 16), b.mode = .physical → b.physEval = .exact →
    ∃ (b0 b1 b2 b3 : Byte) (p : Int), axisField b w = [b0, b1, b2, b3] ∧ (b3 ++ b2 ++ b1 ++ b0).toInt = p ∧
      (0 ≤ decodeAxis 4 w → 1000 * p ≤ decodeAxis 4 w * 19612 ∧ decodeAxis 4 w * 19612 < 1000 * p + 1000) ∧
      (decodeAxis 4 w ≤ 0 → decodeAxis 4 w * 19612 ≤ 1000 * p ∧ 1000 * p - 1000 < decodeAxis 4 w * 19612) ∧
      -40165 ≤ p ∧ p ≤ 40145

/-- 43_conversion_framing R264: over the whole range every float order gives the exact value or one smaller in magnitude,
and the smaller one only at the non-zero multiples of 250; binary64 left to right exactly at ±750, ±1250, ±1500; the
product rounded to binary32 and multiplied in binary64 at every non-zero multiple of 250; the two others nowhere. The
model takes these float values from R264's list, its authors' own computation under IEEE 754 and not from the source; it
computes no floating point itself, and the unknown order is a free draw (log entry 8). -/
def Obligations.FloatOrdersDifferOnlyAtMultiplesOf250 : Prop :=
  ∀ v : Int, -2048 ≤ v → v ≤ 2047 →
    (v * 19612 % 1000 = 0 ↔ v % 250 = 0) ∧
    (∀ e, physValue e v = physOf v ∨ (physValue e v = physOf v - v.sign ∧ v % 250 = 0 ∧ v ≠ 0)) ∧
    (physValue (.float .double) v ≠ physOf v ↔ v ∈ [750, -750, 1250, -1250, 1500, -1500]) ∧
    (physValue (.float .doubleToSingle) v ≠ physOf v ↔ v % 250 = 0 ∧ v ≠ 0) ∧
    physValue (.float .doubleToSingleSingle) v = physOf v ∧ physValue (.float .single) v = physOf v

/-- 43_conversion_framing R270, 30_encoding R115: the whole frame in both modes, the axis words low byte first, the fields
in X, Y, Z order, each the little-endian bytes of the wrapped value. -/
def Obligations.FramesHaveTheSpecifiedBytes : Prop :=
  ∀ (b : Build) (raw : Vector Byte sampleBytes),
    let x : BitVec 16 := raw[1] ++ raw[0]
    let y : BitVec 16 := raw[3] ++ raw[2]
    let z : BitVec 16 := raw[5] ++ raw[4]
    (b.mode = .count →
      let c : BitVec 16 → BitVec 16 := fun w => BitVec.ofInt 16 (4 * decodeAxis 6 w)
      pack b raw =
        [0xA0#8, (c x).extractLsb' 0 8, (c x).extractLsb' 8 8, (c y).extractLsb' 0 8, (c y).extractLsb' 8 8,
         (c z).extractLsb' 0 8, (c z).extractLsb' 8 8, 0xC0#8]) ∧
    (b.mode = .physical →
      let p : BitVec 16 → BitVec 32 := fun w => BitVec.ofInt 32 (physValue b.physEval (decodeAxis 4 w))
      pack b raw =
        [0xA0#8, (p x).extractLsb' 0 8, (p x).extractLsb' 8 8, (p x).extractLsb' 16 8, (p x).extractLsb' 24 8,
         (p y).extractLsb' 0 8, (p y).extractLsb' 8 8, (p y).extractLsb' 16 8, (p y).extractLsb' 24 8,
         (p z).extractLsb' 0 8, (p z).extractLsb' 8 8, (p z).extractLsb' 16 8, (p z).extractLsb' 24 8, 0xC0#8])

/-- 43_conversion_framing R265: no lane's result depends on another lane's bytes: where two samples agree on the two bytes
of an axis, b[2i] and b[2i+1], their frames agree on that axis's field, whatever the other bytes are. -/
def Obligations.AxisLanesAreIndependent : Prop :=
  ∀ (b : Build) (raw raw' : Vector Byte sampleBytes) (i : Fin 3) (k : Nat),
    raw[2 * i.val]? = raw'[2 * i.val]? → raw[2 * i.val + 1]? = raw'[2 * i.val + 1]? →
    k < (flen b.mode - 2) / 3 →
    (pack b raw)[1 + i.val * ((flen b.mode - 2) / 3) + k]? = (pack b raw')[1 + i.val * ((flen b.mode - 2) / 3) + k]?

/-- 43_conversion_framing R271: every frame built by Pack has FLEN(MODE) bytes, 0xA0 first and 0xC0 last, whatever the
payload. -/
def Obligations.EveryPackedFrameIsBounded : Prop :=
  ∀ (b : Build) (raw : Vector Byte sampleBytes),
    (pack b raw).length = (match b.mode with | .count => 8 | .physical => 14) ∧
    (pack b raw)[0]? = some 0xA0#8 ∧ (pack b raw)[(pack b raw).length - 1]? = some 0xC0#8

/-- 41_sensor_register_map R200, R201: the two status tests are tests of bit 3 and of bit 7 alone. -/
def Obligations.StatusTestsReadOneBit : Prop :=
  ∀ s : Byte,
    (isNewDataAvailable s = true ↔ s.toNat / 8 % 2 = 1) ∧ (isDataOverrun s = true ↔ s.toNat / 128 % 2 = 1) ∧
    isNewDataAvailable 0x08#8 = true ∧ isNewDataAvailable 0xF7#8 = false ∧ isNewDataAvailable 0x88#8 = true ∧
    isDataOverrun 0x80#8 = true ∧ isDataOverrun 0x7F#8 = false

/-! ## The tick and the sequencer -/

/-- TICK (42_sampling_scheduler R221, 60_exceptions R313): in every state, its entire effect is READY <- 1. -/
def Obligations.TickOnlySetsReady : Prop :=
  ∀ (s : State) (rest : List Turn), s.turns = .tick :: rest →
    step s = .next { s with turns := rest, ready := true }

/-- SEQ_ARM (42_sampling_scheduler R224): Ready to Reading; READY is read and not cleared, nothing else changes. -/
def Obligations.ReadySequencerStartsReading : Prop :=
  ∀ (s : State) (rest : List Turn), s.seqNext rest → s.stuckAgent .seq = false →
    s.run = true → s.phase = .idle → s.ready = true →
    step s = .next { s with turns := rest, phase := .reading }

/-- SEQ_STATUS (42_sampling_scheduler R225), for every answer to its one status read. -/
def Obligations.StatusReadDecidesTheCycle : Prop :=
  ∀ (s : State) (rest : List Turn), s.seqNext rest → s.stuckAgent .seq = false →
    s.run = true → s.phase = .reading →
    let txn := BusTxn.read s.build.devAddr s.build.regStatus 1
    (∀ data, s.nextAnswer txn = .served data → data[0].getLsbD 3 = true →
      step s = .next { s with
        turns := rest, answers := s.answers.tail, asked := s.asked + 1
        busLog := s.busLog ++ [⟨txn, .success, some [data[0]]⟩]
        seqResult := .success, lastStatus := data[0], phase := .emitting }) ∧
    (∀ data, s.nextAnswer txn = .served data → data[0].getLsbD 3 = false →
      step s = .next { s with
        turns := rest, answers := s.answers.tail, asked := s.asked + 1
        busLog := s.busLog ++ [⟨txn, .success, some [data[0]]⟩]
        seqResult := .success, lastStatus := data[0], ready := false, phase := .idle }) ∧
    (∀ r, resultOf (s.nextAnswer txn) = some r → r ≠ .success →
      step s = .next { s with
        turns := rest, answers := s.answers.tail, asked := s.asked + 1
        busLog := s.busLog ++ [⟨txn, r, none⟩]
        seqResult := r, errCount := s.errCount + 1#32, phase := .idle }) ∧
    (s.nextAnswer txn = .silent →
      step s = .next { s with
        turns := rest, answers := s.answers.tail, asked := s.asked + 1, hung := some ⟨.seq, txn⟩ })

/-- SEQ_EMIT (42_sampling_scheduler R226), for every answer to its one 6-byte burst. That this is so in a build with
REG_OUT_BASE above 0xFA too, of which the spec does not say what the burst does, is the model's choice (log entry 22). -/
def Obligations.BurstIsFramedAndEmitted : Prop :=
  ∀ (s : State) (rest : List Turn), s.seqNext rest → s.stuckAgent .seq = false →
    s.run = true → s.phase = .emitting →
    let txn := BusTxn.read s.build.devAddr s.build.regOutBase 6
    (∀ data, s.nextAnswer txn = .served data →
      ∃ t, step s = .next t ∧
        (∀ k, (hk : k < burstMax) → t.buf[k] = if k < 6 then data[k] else s.buf[k]) ∧
        t = { s with
          turns := rest, answers := s.answers.tail, asked := s.asked + 1
          busLog := s.busLog ++ [⟨txn, .success, some (data.toList.take 6)⟩]
          seqResult := .success, buf := t.buf
          frame := pack s.build #v[data[0], data[1], data[2], data[3], data[4], data[5]]
          out := s.out ++ pack s.build #v[data[0], data[1], data[2], data[3], data[4], data[5]]
          frameCount := s.frameCount + 1#32, ready := false, phase := .idle }) ∧
    (∀ r, resultOf (s.nextAnswer txn) = some r → r ≠ .success →
      step s = .next { s with
        turns := rest, answers := s.answers.tail, asked := s.asked + 1
        busLog := s.busLog ++ [⟨txn, r, none⟩]
        seqResult := r, errCount := s.errCount + 1#32, phase := .idle }) ∧
    (s.nextAnswer txn = .silent →
      step s = .next { s with
        turns := rest, answers := s.answers.tail, asked := s.asked + 1, hung := some ⟨.seq, txn⟩ })

/-- 42_sampling_scheduler R227: with RUN = 0, or RUN = 1, PHASE = Idle and READY = 0, the sequencer has no step. -/
def Obligations.SequencerHoldsWithNothingToDo : Prop :=
  ∀ (s : State) (rest : List Turn), s.seqNext rest →
    (s.run = false ∨ (s.run = true ∧ s.phase = .idle ∧ s.ready = false)) →
    step s = .next { s with turns := rest }

/-- 60_exceptions R305: an agent stuck in an unanswered transaction has no further step, while the tick still sets READY.
(That a turn offered to a stuck agent passes is the model's form of it, log entry 3.) -/
def Obligations.StuckAgentHasNoFurtherStep : Prop :=
  ∀ (s : State) (rest : List Turn) (txn : BusTxn),
    (∀ a, s.hung = some ⟨.host, txn⟩ → s.turns = .host a :: rest → step s = .next { s with turns := rest }) ∧
    (s.hung = some ⟨.seq, txn⟩ → s.seqNext rest → step s = .next { s with turns := rest }) ∧
    (s.turns = .tick :: rest → step s = .next { s with turns := rest, ready := true })

/-- 42_sampling_scheduler R233: from Ready, three turns of the sequencer with new data and a served burst append exactly
one frame of FLEN(MODE) bytes between the sentinels, with exactly two BUS_LOG entries, and clear READY. That this is so in
a build with REG_OUT_BASE above 0xFA too, of which the spec does not say what the burst does, is the model's choice (log
entry 22). -/
def Obligations.SuccessfulCycleEmitsOneFrame : Prop :=
  ∀ (s : State) (rest : List Turn) (status data : Vector Byte burstMax) (more : List BusAnswer),
    s.turns = .seq :: .seq :: .seq :: rest → s.stuckAgent .seq = false →
    s.run = true → s.phase = .idle → s.ready = true →
    s.answers = .served status :: .served data :: more → status[0].getLsbD 3 = true →
    ∃ (t : State) (f : List Byte), Host.Core.run Sys2Proof.core 3 s = .next t ∧
      t.out = s.out ++ f ∧ frameShape s.build.mode f ∧ t.frame = f ∧
      t.busLog = s.busLog ++
        [⟨.read s.build.devAddr s.build.regStatus 1, .success, some [status[0]]⟩,
         ⟨.read s.build.devAddr s.build.regOutBase 6, .success, some (data.toList.take 6)⟩] ∧
      t.frameCount = s.frameCount + 1#32 ∧ t.errCount = s.errCount ∧ t.phase = .idle ∧ t.ready = false ∧
      t.turns = rest

/-- 42_sampling_scheduler R232: a cycle that finds no new data appends zero bytes to OUT and ends with READY = 0. -/
def Obligations.CycleWithoutNewDataEmitsNothing : Prop :=
  ∀ (s : State) (rest : List Turn) (status : Vector Byte burstMax) (more : List BusAnswer),
    s.turns = .seq :: .seq :: rest → s.stuckAgent .seq = false →
    s.run = true → s.phase = .idle → s.ready = true →
    s.answers = .served status :: more → status[0].getLsbD 3 = false →
    ∃ t : State, Host.Core.run Sys2Proof.core 2 s = .next t ∧
      t.out = s.out ∧ t.ready = false ∧ t.phase = .idle ∧ t.frameCount = s.frameCount ∧
      t.lastStatus = status[0] ∧ t.answers = more ∧ t.turns = rest

/-- 42_sampling_scheduler R231, 70_reset_and_hazards R364: under an environment that fails every status read, the sequencer
cycles SEQ_ARM and SEQ_STATUS without waiting for a tick; ERR_COUNT grows by one a cycle, and nothing is emitted. -/
def Obligations.PersistentFailureOnlyCountsErrors : Prop :=
  ∀ (n : Nat) (s : State) (rest : List Turn) (fails more : List BusAnswer),
    s.turns = List.replicate (2 * n) .seq ++ rest → s.stuckAgent .seq = false →
    s.run = true → s.phase = .idle → s.ready = true →
    s.answers = fails ++ more → fails.length = n → (∀ a ∈ fails, a = .noAck ∨ a = .busError) →
    ∃ t : State, Host.Core.run Sys2Proof.core (2 * n) s = .next t ∧
      t.out = s.out ∧ t.frameCount = s.frameCount ∧ t.errCount = s.errCount + BitVec.ofNat 32 n ∧
      t.phase = .idle ∧ t.ready = true ∧ t.busLog.length = s.busLog.length + n ∧ t.turns = rest

/-- 40_bus_transactions R141, R139, R161: the sequencer's turn issues no transaction, or exactly one, the one-byte status
read or the sample burst of the sensor, and never a probe or a write. An issued transaction is counted in `asked`; it
enters BUS_LOG where it is answered, and stands in `hung` where it is not (10_state R52; log entries 3, 20). That the burst
is this one in a build with REG_OUT_BASE above 0xFA too is the model's choice (log entry 22). -/
def Obligations.SequencerIssuesAtMostOneRead : Prop :=
  ∀ (s t : State) (rest : List Turn), s.seqNext rest → step s = .next t →
    (t.asked = s.asked ∧ t.busLog = s.busLog ∧ t.hung = s.hung) ∨
    ∃ reg n, ((reg = s.build.regStatus ∧ n = 1) ∨ (reg = s.build.regOutBase ∧ n = 6)) ∧ t.asked = s.asked + 1 ∧
      ((t.hung = s.hung ∧ ∃ res data, t.busLog = s.busLog ++ [⟨.read s.build.devAddr reg n, res, data⟩]) ∨
       (t.hung = some ⟨.seq, .read s.build.devAddr reg n⟩ ∧ t.busLog = s.busLog))

/-! ## What every step keeps -/

/-- 10_state R41: PHASE ≠ Idle implies READY = 1, at reset and after every step. -/
def Obligations.BusyPhaseKeepsReady : Prop :=
  (State.reset.phase ≠ .idle → State.reset.ready = true) ∧
  ∀ s t : State, (s.phase ≠ .idle → s.ready = true) → step s = .next t → (t.phase ≠ .idle → t.ready = true)

/-- 10_state R50: FRAME keeps FLEN(MODE) bytes, HEADER first and FOOTER last, through every step. -/
def Obligations.FrameSentinelsAreNeverOverwritten : Prop :=
  ∀ s t : State, frameShape s.build.mode s.frame → step s = .next t → frameShape t.build.mode t.frame

/-- 42_sampling_scheduler R233, 10_state R44: if OUT is a concatenation of whole frames counted by FRAME_COUNT modulo 2^32
and FRAME has its shape, both are so after every step. -/
def Obligations.OutStaysAConcatenationOfWholeFrames : Prop :=
  ∀ (s t : State) (n : Nat), frameShape s.build.mode s.frame → wholeFrames s.build.mode s.out n →
    s.frameCount = BitVec.ofNat 32 n → step s = .next t →
    ∃ m, (m = n ∨ m = n + 1) ∧ wholeFrames t.build.mode t.out m ∧ t.frameCount = BitVec.ofNat 32 m ∧
      (m = n → t.out = s.out)

/-- The invariant of the block (Safety.lean: FRAME's shape, READY and RUN while a cycle is under way, no Timeout code, who
may be stuck and in what, BUS_LOG complete and well formed, OUT whole frames counted by FRAME_COUNT) is kept by every step
from every state that has it. -/
def Obligations.EveryStepKeepsTheInvariant : Prop :=
  ∀ s t : State, s.Inv → step s = .next t → t.Inv

/-- The state after reset has the invariant, in every build. -/
def Obligations.ResetHasTheInvariant : Prop :=
  (∀ b : Build, (State.resetIn b).Inv) ∧ State.reset.Inv

/-- 42_sampling_scheduler R228: no step of any agent sets RUN back to 0. -/
def Obligations.NoStepClearsRun : Prop :=
  ∀ s t : State, step s = .next t → s.run = true → t.run = true

/-- 10_state R51, 43_conversion_framing R268: no step writes MODE or any other build parameter, and no command does. -/
def Obligations.BuildParametersNeverChange : Prop :=
  (∀ s t : State, step s = .next t → t.build = s.build) ∧
  (∀ (i : Instr) (s t : State), exec i s = .next t → t.build = s.build)

/-- 10_state R38, 20_memory R84: READY goes up only in a tick's step, and down only in a step of the sequencer that ends a
cycle which emitted a frame or found no new data. -/
def Obligations.OnlyTickSetsAndOnlySequencerClearsReady : Prop :=
  ∀ s t : State, step s = .next t →
    (s.ready = false → t.ready = true → ∃ rest, s.turns = .tick :: rest) ∧
    (s.ready = true → t.ready = false →
      (∃ rest, s.seqNext rest) ∧ s.run = true ∧ s.phase ≠ .idle ∧ t.phase = .idle ∧ t.seqResult = .success ∧
      ((s.phase = .emitting ∧ t.frameCount = s.frameCount + 1#32) ∨
       (s.phase = .reading ∧ t.lastStatus.getLsbD 3 = false ∧ t.out = s.out)))

/-- 60_exceptions R304, 10_state R35: code 3 (Timeout) is never written to CMD_RESULT or SEQ_RESULT. -/
def Obligations.TimeoutIsNeverWritten : Prop :=
  ∀ s t : State, step s = .next t →
    (t.cmdResult = .timeout → s.cmdResult = .timeout) ∧ (t.seqResult = .timeout → s.seqResult = .timeout)

/-- 60_exceptions R303: no failure writes to OUT: a step that counts an error leaves OUT, FRAME, FRAME_COUNT and BUF as they
were, and READY too. -/
def Obligations.FailuresAreSilentAtTheOutput : Prop :=
  ∀ s t : State, step s = .next t → t.errCount ≠ s.errCount →
    t.errCount = s.errCount + 1#32 ∧ t.seqResult ≠ .success ∧ t.phase = .idle ∧ t.ready = s.ready ∧
    t.out = s.out ∧ t.frame = s.frame ∧ t.frameCount = s.frameCount ∧ t.buf = s.buf

/-- 10_state R52, R53: BUS_LOG and OUT only grow at their ends, and every entry a step adds is one R52 and R78 allow. -/
def Obligations.LogsOnlyGrowByLegalEntries : Prop :=
  ∀ s t : State, step s = .next t →
    (∃ es : List BusEntry, t.busLog = s.busLog ++ es ∧ ∀ e ∈ es, e.legal) ∧ (∃ bytes : List Byte, t.out = s.out ++ bytes)

/-! ## Host register map and reset -/

/-- 10_state R54, 20_memory R74: the word at every offset of the host register map, field by field, the results by their
code numbers (10_state R35, 30_encoding R117); every field not listed and every other offset reads 0. -/
def Obligations.HostRegisterMapWords : Prop :=
  ∀ s : State,
    hostWord s 0x00 = s.cmdLast ∧
    ((hostWord s 0x04).extractLsb' 0 3 =
        (match s.cmdResult with
          | .success => 0#3
          | .noAck => 1#3
          | .busError => 2#3
          | .timeout => 3#3
          | .illegalCommand => 4#3
          | .busy => 5#3) ∧
      (hostWord s 0x04).extractLsb' 8 2 =
        (match s.seqResult with
          | .success => 0#2
          | .noAck => 1#2
          | .busError => 2#2
          | .timeout => 3#2) ∧
      hostWord s 0x04 &&& 0xFFFFFCF8#32 = 0#32) ∧
    (hostWord s 0x08).toNat = s.rdata.toNat ∧
    ((hostWord s 0x0C).getLsbD 0 = s.run ∧ (hostWord s 0x0C).getLsbD 1 = s.ready ∧
      (hostWord s 0x0C).extractLsb' 2 2 = schedState s.phase s.ready ∧
      (hostWord s 0x0C).getLsbD 4 = decide (s.build.mode = .physical) ∧ hostWord s 0x0C &&& 0xFFFFFFE0#32 = 0#32) ∧
    hostWord s 0x10 = s.errCount ∧ hostWord s 0x14 = s.frameCount ∧
    ((hostWord s 0x18).extractLsb' 0 8 = s.lastStatus ∧ (hostWord s 0x18).extractLsb' 8 8 = s.ident ∧
      (hostWord s 0x18).extractLsb' 16 2 = s.cfgWrote ∧ hostWord s 0x18 &&& 0xFFFC0000#32 = 0#32) ∧
    (∀ k j : Nat, k < 4 → j < 32 → (hostWord s (0x20 + 4 * k)).getLsbD j = s.present.getLsbD (32 * k + j)) ∧
    (∀ k j : Nat, (hk : k < 8) → (hj : j < 4) →
      (hostWord s (0x40 + 4 * k)).extractLsb' (8 * j) 8 = s.buf[4 * k + j]'(by unfold burstMax; omega)) ∧
    (∀ k j : Nat, k < 4 → j < 4 →
      (hostWord s (0x60 + 4 * k)).extractLsb' (8 * j) 8 =
        if 4 * k + j < flen s.build.mode then s.frame.getD (4 * k + j) 0#8 else 0#8) ∧
    (∀ off : Nat,
      off ∉ [0x00, 0x04, 0x08, 0x0C, 0x10, 0x14, 0x18, 0x20, 0x24, 0x28, 0x2C, 0x40, 0x44, 0x48, 0x4C, 0x50, 0x54, 0x58,
        0x5C, 0x60, 0x64, 0x68, 0x6C] → hostWord s off = 0#32)

/-- 10_state R40: the SCHED_STATE view, whatever RUN holds. -/
def Obligations.SchedStateIsTheViewOfPhaseAndReady : Prop :=
  ∀ s : State,
    (s.phase = .reading → schedState s.phase s.ready = 2#2) ∧
    (s.phase = .emitting → schedState s.phase s.ready = 3#2) ∧
    (s.phase = .idle → s.ready = true → schedState s.phase s.ready = 1#2) ∧
    (s.phase = .idle → s.ready = false → schedState s.phase s.ready = 0#2)

/-- 10_state R55, R56, R57: an aligned read returns the mapped word as it stands and changes no register, at any time; an
aligned write elsewhere than offset 0x00 changes no state; any other access is refused. -/
def Obligations.HostAccessesFollowTheMap : Prop :=
  ∀ (s : State) (rest : List Turn), s.stuckAgent .host = false →
    (∀ off, off % 4 = 0 → s.turns = .host (.read off 4) :: rest →
      step s = .next { s with turns := rest, hostReads := s.hostReads ++ [(off, hostWord s off)] }) ∧
    (∀ off w, off % 4 = 0 → off ≠ 0 → s.turns = .host (.write off 4 w) :: rest →
      step s = .next { s with turns := rest }) ∧
    (∀ off width w, (width ≠ 4 ∨ off % 4 ≠ 0) →
      (s.turns = .host (.read off width) :: rest ∨ s.turns = .host (.write off width w) :: rest) →
      step s = .refused .hostAccess)

/-- 10_state R33, 70_reset_and_hazards R340: every register at its reset value in every build, BUS_LOG and OUT empty; the
block's own reset is in the build the parameters of Config leave open. -/
def Obligations.ResetValuesAreTheSpecs : Prop :=
  State.reset = State.resetIn Config.build ∧
  ∀ b : Build, let s := State.resetIn b
    s.cmdLast = 0x00000000#32 ∧ s.cmdResult.code = 0#3 ∧ s.seqResult.code = 0#2 ∧ s.rdata = 0#8 ∧ s.run = false ∧
    s.ready = false ∧ schedState s.phase s.ready = 0#2 ∧ s.phase = .idle ∧ s.errCount = 0#32 ∧ s.frameCount = 0#32 ∧
    s.lastStatus = 0#8 ∧ s.ident = 0#8 ∧ s.cfgWrote = 0b00#2 ∧ (∀ a, presentBit s.present a = false) ∧
    (∀ k, (hk : k < burstMax) → s.buf[k] = 0#8) ∧
    s.frame = [0xA0#8] ++ List.replicate (flen b.mode - 2) 0x00#8 ++ [0xC0#8] ∧
    s.busLog = [] ∧ s.out = [] ∧ s.build = b

/-- 70_reset_and_hazards R340: a reset in the middle of a run is refused. -/
def Obligations.MidRunResetIsRefused : Prop :=
  ∀ (s : State) (rest : List Turn), s.turns = .reset :: rest → step s = .refused .midRunReset

/-- 30_encoding R117: the six codes, those of a Transaction Result also in SEQ_RESULT's 2 bits, and a Transaction Result
keeps its code as a command's result. -/
def Obligations.ResultCodesAreTheSpecs : Prop :=
  CmdResult.success.code = 0#3 ∧ CmdResult.noAck.code = 1#3 ∧ CmdResult.busError.code = 2#3 ∧
  CmdResult.timeout.code = 3#3 ∧ CmdResult.illegalCommand.code = 4#3 ∧ CmdResult.busy.code = 5#3 ∧
  TxResult.success.code = 0#2 ∧ TxResult.noAck.code = 1#2 ∧ TxResult.busError.code = 2#2 ∧ TxResult.timeout.code = 3#2 ∧
  ∀ r : TxResult, (CmdResult.ofTx r).code = r.code.setWidth 3
end

