-- ==== Sys2Proof/Laws/Encoding.lean ====
section
/-! SUPPORT. The command word and its fields: a word is its five fields, and each row of the opcode map accepts exactly the
words with its OP and the fields it does not use at 0 (30_encoding R101, R103, R109). -/

namespace Sys2Proof

/-- RSV, bit [15] (30_encoding R101). -/
def fieldRsv (w : Word) : BitVec 1 := w.extractLsb' 15 1

/-- A word from all five fields. -/
def fiveFields (data reg : BitVec 8) (rsv : BitVec 1) (dev : BitVec 7) (op : BitVec 8) : Word :=
  data ++ reg ++ rsv ++ dev ++ op

theorem commandWord_eq_fiveFields (op : BitVec 8) (dev : DevAddr) (reg : RegAddr) (data : Byte) :
    commandWord op dev reg data = fiveFields data reg 0#1 dev op := rfl

theorem toNat_fiveFields (data reg : BitVec 8) (rsv : BitVec 1) (dev : BitVec 7) (op : BitVec 8) :
    (fiveFields data reg rsv dev op).toNat =
      data.toNat * 2 ^ 24 + reg.toNat * 2 ^ 16 + rsv.toNat * 2 ^ 15 + dev.toNat * 2 ^ 8 + op.toNat := by
  unfold fiveFields
  simp only [BitVec.toNat_append]
  rw [← Nat.shiftLeft_add_eq_or_of_lt op.isLt, ← Nat.shiftLeft_add_eq_or_of_lt dev.isLt,
    ← Nat.shiftLeft_add_eq_or_of_lt rsv.isLt, ← Nat.shiftLeft_add_eq_or_of_lt reg.isLt]
  simp only [Nat.shiftLeft_eq]
  omega

theorem toNat_fieldOp (w : Word) : (fieldOp w).toNat = w.toNat % 2 ^ 8 := by
  simp [fieldOp]
theorem toNat_fieldDev (w : Word) : (fieldDev w).toNat = w.toNat / 2 ^ 8 % 2 ^ 7 := by
  simp [fieldDev, Nat.shiftRight_eq_div_pow]
theorem toNat_fieldRsv (w : Word) : (fieldRsv w).toNat = w.toNat / 2 ^ 15 % 2 := by
  simp [fieldRsv, Nat.shiftRight_eq_div_pow]
theorem toNat_fieldReg (w : Word) : (fieldReg w).toNat = w.toNat / 2 ^ 16 % 2 ^ 8 := by
  simp [fieldReg, Nat.shiftRight_eq_div_pow]
theorem toNat_fieldData (w : Word) : (fieldData w).toNat = w.toNat / 2 ^ 24 := by
  have := w.isLt
  simp [fieldData, Nat.shiftRight_eq_div_pow]
  omega

/-- A word is its five fields. -/
theorem word_eq_fiveFields (w : Word) :
    w = fiveFields (fieldData w) (fieldReg w) (fieldRsv w) (fieldDev w) (fieldOp w) := by
  apply BitVec.eq_of_toNat_eq
  rw [toNat_fiveFields, toNat_fieldOp, toNat_fieldDev, toNat_fieldRsv, toNat_fieldReg, toNat_fieldData]
  omega

theorem fiveFields_inj {d d' r r' : BitVec 8} {v v' : BitVec 1} {a a' : BitVec 7} {o o' : BitVec 8} :
    fiveFields d r v a o = fiveFields d' r' v' a' o' ↔ d = d' ∧ r = r' ∧ v = v' ∧ a = a' ∧ o = o' := by
  constructor
  · intro h
    have h := congrArg BitVec.toNat h
    rw [toNat_fiveFields, toNat_fiveFields] at h
    have h1 := d.isLt; have h2 := d'.isLt; have h3 := r.isLt; have h4 := r'.isLt
    have h5 := v.isLt; have h6 := v'.isLt; have h7 := a.isLt; have h8 := a'.isLt
    have h9 := o.isLt; have h10 := o'.isLt
    simp only [← BitVec.toNat_inj]
    omega
  · rintro ⟨rfl, rfl, rfl, rfl, rfl⟩
    rfl

theorem fiveFields_and (d d' r r' : BitVec 8) (v v' : BitVec 1) (a a' : BitVec 7) (o o' : BitVec 8) :
    fiveFields d r v a o &&& fiveFields d' r' v' a' o' =
      fiveFields (d &&& d') (r &&& r') (v &&& v') (a &&& a') (o &&& o') := by
  have h : (d ++ r ++ v ++ a ++ o : BitVec (8 + 8 + 1 + 7 + 8)) &&& (d' ++ r' ++ v' ++ a' ++ o') =
      (d &&& d') ++ (r &&& r') ++ (v &&& v') ++ (a &&& a') ++ (o &&& o') := by
    simp only [BitVec.and_append]
  exact h

/-- A mask and match, field by field. -/
theorem and_eq_iff_fields (w : Word) {d d' r r' : BitVec 8} {v v' : BitVec 1} {a a' : BitVec 7} {o o' : BitVec 8} :
    w &&& fiveFields d r v a o = fiveFields d' r' v' a' o' ↔
      fieldData w &&& d = d' ∧ fieldReg w &&& r = r' ∧ fieldRsv w &&& v = v' ∧ fieldDev w &&& a = a' ∧
        fieldOp w &&& o = o' := by
  conv_lhs => lhs; rw [word_eq_fiveFields w]
  rw [fiveFields_and, fiveFields_inj]

@[simp] theorem fieldOp_fiveFields (d r : BitVec 8) (v : BitVec 1) (a : BitVec 7) (o : BitVec 8) :
    fieldOp (fiveFields d r v a o) = o := (fiveFields_inj.mp (word_eq_fiveFields (fiveFields d r v a o))).2.2.2.2.symm
@[simp] theorem fieldDev_fiveFields (d r : BitVec 8) (v : BitVec 1) (a : BitVec 7) (o : BitVec 8) :
    fieldDev (fiveFields d r v a o) = a := (fiveFields_inj.mp (word_eq_fiveFields (fiveFields d r v a o))).2.2.2.1.symm
@[simp] theorem fieldRsv_fiveFields (d r : BitVec 8) (v : BitVec 1) (a : BitVec 7) (o : BitVec 8) :
    fieldRsv (fiveFields d r v a o) = v := (fiveFields_inj.mp (word_eq_fiveFields (fiveFields d r v a o))).2.2.1.symm
@[simp] theorem fieldReg_fiveFields (d r : BitVec 8) (v : BitVec 1) (a : BitVec 7) (o : BitVec 8) :
    fieldReg (fiveFields d r v a o) = r := (fiveFields_inj.mp (word_eq_fiveFields (fiveFields d r v a o))).2.1.symm
@[simp] theorem fieldData_fiveFields (d r : BitVec 8) (v : BitVec 1) (a : BitVec 7) (o : BitVec 8) :
    fieldData (fiveFields d r v a o) = d := (fiveFields_inj.mp (word_eq_fiveFields (fiveFields d r v a o))).1.symm

/-! One lemma for each mask of the opcode map: which words it accepts. -/

theorem accepts_formatD (w : Word) (o : BitVec 8) :
    w &&& 0xFFFF80FF#32 = fiveFields 0#8 0#8 0#1 0#7 o ↔
      fieldOp w = o ∧ fieldRsv w = 0#1 ∧ fieldReg w = 0#8 ∧ fieldData w = 0#8 := by
  have h : (0xFFFF80FF#32 : Word) = fiveFields 0xFF#8 0xFF#8 1#1 0#7 0xFF#8 := by decide
  rw [h, and_eq_iff_fields]
  have e8 : ∀ x : BitVec 8, x &&& 0xFF#8 = x := by intro x; exact BitVec.and_allOnes
  have e1 : ∀ x : BitVec 1, x &&& 1#1 = x := by intro x; exact BitVec.and_allOnes
  simp only [e8, e1, BitVec.and_zero]
  tauto

theorem accepts_formatDR (w : Word) (o : BitVec 8) :
    w &&& 0xFF0080FF#32 = fiveFields 0#8 0#8 0#1 0#7 o ↔ fieldOp w = o ∧ fieldRsv w = 0#1 ∧ fieldData w = 0#8 := by
  have h : (0xFF0080FF#32 : Word) = fiveFields 0xFF#8 0#8 1#1 0#7 0xFF#8 := by decide
  rw [h, and_eq_iff_fields]
  have e8 : ∀ x : BitVec 8, x &&& 0xFF#8 = x := by intro x; exact BitVec.and_allOnes
  have e1 : ∀ x : BitVec 1, x &&& 1#1 = x := by intro x; exact BitVec.and_allOnes
  simp only [e8, e1, BitVec.and_zero]
  tauto

theorem accepts_formatDRV (w : Word) (o : BitVec 8) :
    w &&& 0x000080FF#32 = fiveFields 0#8 0#8 0#1 0#7 o ↔ fieldOp w = o ∧ fieldRsv w = 0#1 := by
  have h : (0x000080FF#32 : Word) = fiveFields 0#8 0#8 1#1 0#7 0xFF#8 := by decide
  rw [h, and_eq_iff_fields]
  have e8 : ∀ x : BitVec 8, x &&& 0xFF#8 = x := by intro x; exact BitVec.and_allOnes
  have e1 : ∀ x : BitVec 1, x &&& 1#1 = x := by intro x; exact BitVec.and_allOnes
  simp only [e8, e1, BitVec.and_zero]
  tauto

theorem accepts_formatIV (w : Word) (o : BitVec 8) :
    w &&& 0x0000FFFF#32 = fiveFields 0#8 0#8 0#1 0#7 o ↔ fieldOp w = o ∧ fieldRsv w = 0#1 ∧ fieldDev w = 0#7 := by
  have h : (0x0000FFFF#32 : Word) = fiveFields 0#8 0#8 1#1 0x7F#7 0xFF#8 := by decide
  rw [h, and_eq_iff_fields]
  have e8 : ∀ x : BitVec 8, x &&& 0xFF#8 = x := by intro x; exact BitVec.and_allOnes
  have e7 : ∀ x : BitVec 7, x &&& 0x7F#7 = x := by intro x; exact BitVec.and_allOnes
  have e1 : ∀ x : BitVec 1, x &&& 1#1 = x := by intro x; exact BitVec.and_allOnes
  simp only [e8, e7, e1, BitVec.and_zero]
  tauto

theorem accepts_formatN (w : Word) (o : BitVec 8) :
    w &&& 0xFFFFFFFF#32 = fiveFields 0#8 0#8 0#1 0#7 o ↔ w = fiveFields 0#8 0#8 0#1 0#7 o := by
  have h : w &&& 0xFFFFFFFF#32 = w := BitVec.and_allOnes
  rw [h]

end Sys2Proof
end

