-- ==== Sys2Proof/Laws/State.lean ====
section
/-! SUPPORT. What each named write of a register does to each field of State: its own field gets the value, every other
field is kept. One lemma per field per write, so that no proof unfolds a record update. -/

namespace Sys2Proof.Machine

variable (s : State)

@[simp] theorem State.setCmdLast_cmdLast (w : Word) : (s.setCmdLast w).cmdLast = w := rfl
@[simp] theorem State.setCmdLast_cmdResult (w : Word) : (s.setCmdLast w).cmdResult = s.cmdResult := rfl
@[simp] theorem State.setCmdLast_seqResult (w : Word) : (s.setCmdLast w).seqResult = s.seqResult := rfl
@[simp] theorem State.setCmdLast_rdata (w : Word) : (s.setCmdLast w).rdata = s.rdata := rfl
@[simp] theorem State.setCmdLast_run (w : Word) : (s.setCmdLast w).run = s.run := rfl
@[simp] theorem State.setCmdLast_ready (w : Word) : (s.setCmdLast w).ready = s.ready := rfl
@[simp] theorem State.setCmdLast_phase (w : Word) : (s.setCmdLast w).phase = s.phase := rfl
@[simp] theorem State.setCmdLast_errCount (w : Word) : (s.setCmdLast w).errCount = s.errCount := rfl
@[simp] theorem State.setCmdLast_frameCount (w : Word) : (s.setCmdLast w).frameCount = s.frameCount := rfl
@[simp] theorem State.setCmdLast_lastStatus (w : Word) : (s.setCmdLast w).lastStatus = s.lastStatus := rfl
@[simp] theorem State.setCmdLast_ident (w : Word) : (s.setCmdLast w).ident = s.ident := rfl
@[simp] theorem State.setCmdLast_cfgWrote (w : Word) : (s.setCmdLast w).cfgWrote = s.cfgWrote := rfl
@[simp] theorem State.setCmdLast_present (w : Word) : (s.setCmdLast w).present = s.present := rfl
@[simp] theorem State.setCmdLast_buf (w : Word) : (s.setCmdLast w).buf = s.buf := rfl
@[simp] theorem State.setCmdLast_frame (w : Word) : (s.setCmdLast w).frame = s.frame := rfl
@[simp] theorem State.setCmdLast_build (w : Word) : (s.setCmdLast w).build = s.build := rfl
@[simp] theorem State.setCmdLast_hung (w : Word) : (s.setCmdLast w).hung = s.hung := rfl
@[simp] theorem State.setCmdLast_busLog (w : Word) : (s.setCmdLast w).busLog = s.busLog := rfl
@[simp] theorem State.setCmdLast_out (w : Word) : (s.setCmdLast w).out = s.out := rfl
@[simp] theorem State.setCmdLast_hostReads (w : Word) : (s.setCmdLast w).hostReads = s.hostReads := rfl
@[simp] theorem State.setCmdLast_answers (w : Word) : (s.setCmdLast w).answers = s.answers := rfl
@[simp] theorem State.setCmdLast_asked (w : Word) : (s.setCmdLast w).asked = s.asked := rfl
@[simp] theorem State.setCmdLast_turns (w : Word) : (s.setCmdLast w).turns = s.turns := rfl

@[simp] theorem State.setCmdResult_cmdLast (r : CmdResult) : (s.setCmdResult r).cmdLast = s.cmdLast := rfl
@[simp] theorem State.setCmdResult_cmdResult (r : CmdResult) : (s.setCmdResult r).cmdResult = r := rfl
@[simp] theorem State.setCmdResult_seqResult (r : CmdResult) : (s.setCmdResult r).seqResult = s.seqResult := rfl
@[simp] theorem State.setCmdResult_rdata (r : CmdResult) : (s.setCmdResult r).rdata = s.rdata := rfl
@[simp] theorem State.setCmdResult_run (r : CmdResult) : (s.setCmdResult r).run = s.run := rfl
@[simp] theorem State.setCmdResult_ready (r : CmdResult) : (s.setCmdResult r).ready = s.ready := rfl
@[simp] theorem State.setCmdResult_phase (r : CmdResult) : (s.setCmdResult r).phase = s.phase := rfl
@[simp] theorem State.setCmdResult_errCount (r : CmdResult) : (s.setCmdResult r).errCount = s.errCount := rfl
@[simp] theorem State.setCmdResult_frameCount (r : CmdResult) : (s.setCmdResult r).frameCount = s.frameCount := rfl
@[simp] theorem State.setCmdResult_lastStatus (r : CmdResult) : (s.setCmdResult r).lastStatus = s.lastStatus := rfl
@[simp] theorem State.setCmdResult_ident (r : CmdResult) : (s.setCmdResult r).ident = s.ident := rfl
@[simp] theorem State.setCmdResult_cfgWrote (r : CmdResult) : (s.setCmdResult r).cfgWrote = s.cfgWrote := rfl
@[simp] theorem State.setCmdResult_present (r : CmdResult) : (s.setCmdResult r).present = s.present := rfl
@[simp] theorem State.setCmdResult_buf (r : CmdResult) : (s.setCmdResult r).buf = s.buf := rfl
@[simp] theorem State.setCmdResult_frame (r : CmdResult) : (s.setCmdResult r).frame = s.frame := rfl
@[simp] theorem State.setCmdResult_build (r : CmdResult) : (s.setCmdResult r).build = s.build := rfl
@[simp] theorem State.setCmdResult_hung (r : CmdResult) : (s.setCmdResult r).hung = s.hung := rfl
@[simp] theorem State.setCmdResult_busLog (r : CmdResult) : (s.setCmdResult r).busLog = s.busLog := rfl
@[simp] theorem State.setCmdResult_out (r : CmdResult) : (s.setCmdResult r).out = s.out := rfl
@[simp] theorem State.setCmdResult_hostReads (r : CmdResult) : (s.setCmdResult r).hostReads = s.hostReads := rfl
@[simp] theorem State.setCmdResult_answers (r : CmdResult) : (s.setCmdResult r).answers = s.answers := rfl
@[simp] theorem State.setCmdResult_asked (r : CmdResult) : (s.setCmdResult r).asked = s.asked := rfl
@[simp] theorem State.setCmdResult_turns (r : CmdResult) : (s.setCmdResult r).turns = s.turns := rfl

@[simp] theorem State.setSeqResult_cmdLast (r : TxResult) : (s.setSeqResult r).cmdLast = s.cmdLast := rfl
@[simp] theorem State.setSeqResult_cmdResult (r : TxResult) : (s.setSeqResult r).cmdResult = s.cmdResult := rfl
@[simp] theorem State.setSeqResult_seqResult (r : TxResult) : (s.setSeqResult r).seqResult = r := rfl
@[simp] theorem State.setSeqResult_rdata (r : TxResult) : (s.setSeqResult r).rdata = s.rdata := rfl
@[simp] theorem State.setSeqResult_run (r : TxResult) : (s.setSeqResult r).run = s.run := rfl
@[simp] theorem State.setSeqResult_ready (r : TxResult) : (s.setSeqResult r).ready = s.ready := rfl
@[simp] theorem State.setSeqResult_phase (r : TxResult) : (s.setSeqResult r).phase = s.phase := rfl
@[simp] theorem State.setSeqResult_errCount (r : TxResult) : (s.setSeqResult r).errCount = s.errCount := rfl
@[simp] theorem State.setSeqResult_frameCount (r : TxResult) : (s.setSeqResult r).frameCount = s.frameCount := rfl
@[simp] theorem State.setSeqResult_lastStatus (r : TxResult) : (s.setSeqResult r).lastStatus = s.lastStatus := rfl
@[simp] theorem State.setSeqResult_ident (r : TxResult) : (s.setSeqResult r).ident = s.ident := rfl
@[simp] theorem State.setSeqResult_cfgWrote (r : TxResult) : (s.setSeqResult r).cfgWrote = s.cfgWrote := rfl
@[simp] theorem State.setSeqResult_present (r : TxResult) : (s.setSeqResult r).present = s.present := rfl
@[simp] theorem State.setSeqResult_buf (r : TxResult) : (s.setSeqResult r).buf = s.buf := rfl
@[simp] theorem State.setSeqResult_frame (r : TxResult) : (s.setSeqResult r).frame = s.frame := rfl
@[simp] theorem State.setSeqResult_build (r : TxResult) : (s.setSeqResult r).build = s.build := rfl
@[simp] theorem State.setSeqResult_hung (r : TxResult) : (s.setSeqResult r).hung = s.hung := rfl
@[simp] theorem State.setSeqResult_busLog (r : TxResult) : (s.setSeqResult r).busLog = s.busLog := rfl
@[simp] theorem State.setSeqResult_out (r : TxResult) : (s.setSeqResult r).out = s.out := rfl
@[simp] theorem State.setSeqResult_hostReads (r : TxResult) : (s.setSeqResult r).hostReads = s.hostReads := rfl
@[simp] theorem State.setSeqResult_answers (r : TxResult) : (s.setSeqResult r).answers = s.answers := rfl
@[simp] theorem State.setSeqResult_asked (r : TxResult) : (s.setSeqResult r).asked = s.asked := rfl
@[simp] theorem State.setSeqResult_turns (r : TxResult) : (s.setSeqResult r).turns = s.turns := rfl

@[simp] theorem State.setRdata_cmdLast (b : Byte) : (s.setRdata b).cmdLast = s.cmdLast := rfl
@[simp] theorem State.setRdata_cmdResult (b : Byte) : (s.setRdata b).cmdResult = s.cmdResult := rfl
@[simp] theorem State.setRdata_seqResult (b : Byte) : (s.setRdata b).seqResult = s.seqResult := rfl
@[simp] theorem State.setRdata_rdata (b : Byte) : (s.setRdata b).rdata = b := rfl
@[simp] theorem State.setRdata_run (b : Byte) : (s.setRdata b).run = s.run := rfl
@[simp] theorem State.setRdata_ready (b : Byte) : (s.setRdata b).ready = s.ready := rfl
@[simp] theorem State.setRdata_phase (b : Byte) : (s.setRdata b).phase = s.phase := rfl
@[simp] theorem State.setRdata_errCount (b : Byte) : (s.setRdata b).errCount = s.errCount := rfl
@[simp] theorem State.setRdata_frameCount (b : Byte) : (s.setRdata b).frameCount = s.frameCount := rfl
@[simp] theorem State.setRdata_lastStatus (b : Byte) : (s.setRdata b).lastStatus = s.lastStatus := rfl
@[simp] theorem State.setRdata_ident (b : Byte) : (s.setRdata b).ident = s.ident := rfl
@[simp] theorem State.setRdata_cfgWrote (b : Byte) : (s.setRdata b).cfgWrote = s.cfgWrote := rfl
@[simp] theorem State.setRdata_present (b : Byte) : (s.setRdata b).present = s.present := rfl
@[simp] theorem State.setRdata_buf (b : Byte) : (s.setRdata b).buf = s.buf := rfl
@[simp] theorem State.setRdata_frame (b : Byte) : (s.setRdata b).frame = s.frame := rfl
@[simp] theorem State.setRdata_build (b : Byte) : (s.setRdata b).build = s.build := rfl
@[simp] theorem State.setRdata_hung (b : Byte) : (s.setRdata b).hung = s.hung := rfl
@[simp] theorem State.setRdata_busLog (b : Byte) : (s.setRdata b).busLog = s.busLog := rfl
@[simp] theorem State.setRdata_out (b : Byte) : (s.setRdata b).out = s.out := rfl
@[simp] theorem State.setRdata_hostReads (b : Byte) : (s.setRdata b).hostReads = s.hostReads := rfl
@[simp] theorem State.setRdata_answers (b : Byte) : (s.setRdata b).answers = s.answers := rfl
@[simp] theorem State.setRdata_asked (b : Byte) : (s.setRdata b).asked = s.asked := rfl
@[simp] theorem State.setRdata_turns (b : Byte) : (s.setRdata b).turns = s.turns := rfl

@[simp] theorem State.startRun_cmdLast : s.startRun.cmdLast = s.cmdLast := rfl
@[simp] theorem State.startRun_cmdResult : s.startRun.cmdResult = s.cmdResult := rfl
@[simp] theorem State.startRun_seqResult : s.startRun.seqResult = s.seqResult := rfl
@[simp] theorem State.startRun_rdata : s.startRun.rdata = s.rdata := rfl
@[simp] theorem State.startRun_run : s.startRun.run = true := rfl
@[simp] theorem State.startRun_ready : s.startRun.ready = s.ready := rfl
@[simp] theorem State.startRun_phase : s.startRun.phase = s.phase := rfl
@[simp] theorem State.startRun_errCount : s.startRun.errCount = s.errCount := rfl
@[simp] theorem State.startRun_frameCount : s.startRun.frameCount = s.frameCount := rfl
@[simp] theorem State.startRun_lastStatus : s.startRun.lastStatus = s.lastStatus := rfl
@[simp] theorem State.startRun_ident : s.startRun.ident = s.ident := rfl
@[simp] theorem State.startRun_cfgWrote : s.startRun.cfgWrote = s.cfgWrote := rfl
@[simp] theorem State.startRun_present : s.startRun.present = s.present := rfl
@[simp] theorem State.startRun_buf : s.startRun.buf = s.buf := rfl
@[simp] theorem State.startRun_frame : s.startRun.frame = s.frame := rfl
@[simp] theorem State.startRun_build : s.startRun.build = s.build := rfl
@[simp] theorem State.startRun_hung : s.startRun.hung = s.hung := rfl
@[simp] theorem State.startRun_busLog : s.startRun.busLog = s.busLog := rfl
@[simp] theorem State.startRun_out : s.startRun.out = s.out := rfl
@[simp] theorem State.startRun_hostReads : s.startRun.hostReads = s.hostReads := rfl
@[simp] theorem State.startRun_answers : s.startRun.answers = s.answers := rfl
@[simp] theorem State.startRun_asked : s.startRun.asked = s.asked := rfl
@[simp] theorem State.startRun_turns : s.startRun.turns = s.turns := rfl

@[simp] theorem State.setReady_cmdLast (b : Bool) : (s.setReady b).cmdLast = s.cmdLast := rfl
@[simp] theorem State.setReady_cmdResult (b : Bool) : (s.setReady b).cmdResult = s.cmdResult := rfl
@[simp] theorem State.setReady_seqResult (b : Bool) : (s.setReady b).seqResult = s.seqResult := rfl
@[simp] theorem State.setReady_rdata (b : Bool) : (s.setReady b).rdata = s.rdata := rfl
@[simp] theorem State.setReady_run (b : Bool) : (s.setReady b).run = s.run := rfl
@[simp] theorem State.setReady_ready (b : Bool) : (s.setReady b).ready = b := rfl
@[simp] theorem State.setReady_phase (b : Bool) : (s.setReady b).phase = s.phase := rfl
@[simp] theorem State.setReady_errCount (b : Bool) : (s.setReady b).errCount = s.errCount := rfl
@[simp] theorem State.setReady_frameCount (b : Bool) : (s.setReady b).frameCount = s.frameCount := rfl
@[simp] theorem State.setReady_lastStatus (b : Bool) : (s.setReady b).lastStatus = s.lastStatus := rfl
@[simp] theorem State.setReady_ident (b : Bool) : (s.setReady b).ident = s.ident := rfl
@[simp] theorem State.setReady_cfgWrote (b : Bool) : (s.setReady b).cfgWrote = s.cfgWrote := rfl
@[simp] theorem State.setReady_present (b : Bool) : (s.setReady b).present = s.present := rfl
@[simp] theorem State.setReady_buf (b : Bool) : (s.setReady b).buf = s.buf := rfl
@[simp] theorem State.setReady_frame (b : Bool) : (s.setReady b).frame = s.frame := rfl
@[simp] theorem State.setReady_build (b : Bool) : (s.setReady b).build = s.build := rfl
@[simp] theorem State.setReady_hung (b : Bool) : (s.setReady b).hung = s.hung := rfl
@[simp] theorem State.setReady_busLog (b : Bool) : (s.setReady b).busLog = s.busLog := rfl
@[simp] theorem State.setReady_out (b : Bool) : (s.setReady b).out = s.out := rfl
@[simp] theorem State.setReady_hostReads (b : Bool) : (s.setReady b).hostReads = s.hostReads := rfl
@[simp] theorem State.setReady_answers (b : Bool) : (s.setReady b).answers = s.answers := rfl
@[simp] theorem State.setReady_asked (b : Bool) : (s.setReady b).asked = s.asked := rfl
@[simp] theorem State.setReady_turns (b : Bool) : (s.setReady b).turns = s.turns := rfl

@[simp] theorem State.setPhase_cmdLast (p : Phase) : (s.setPhase p).cmdLast = s.cmdLast := rfl
@[simp] theorem State.setPhase_cmdResult (p : Phase) : (s.setPhase p).cmdResult = s.cmdResult := rfl
@[simp] theorem State.setPhase_seqResult (p : Phase) : (s.setPhase p).seqResult = s.seqResult := rfl
@[simp] theorem State.setPhase_rdata (p : Phase) : (s.setPhase p).rdata = s.rdata := rfl
@[simp] theorem State.setPhase_run (p : Phase) : (s.setPhase p).run = s.run := rfl
@[simp] theorem State.setPhase_ready (p : Phase) : (s.setPhase p).ready = s.ready := rfl
@[simp] theorem State.setPhase_phase (p : Phase) : (s.setPhase p).phase = p := rfl
@[simp] theorem State.setPhase_errCount (p : Phase) : (s.setPhase p).errCount = s.errCount := rfl
@[simp] theorem State.setPhase_frameCount (p : Phase) : (s.setPhase p).frameCount = s.frameCount := rfl
@[simp] theorem State.setPhase_lastStatus (p : Phase) : (s.setPhase p).lastStatus = s.lastStatus := rfl
@[simp] theorem State.setPhase_ident (p : Phase) : (s.setPhase p).ident = s.ident := rfl
@[simp] theorem State.setPhase_cfgWrote (p : Phase) : (s.setPhase p).cfgWrote = s.cfgWrote := rfl
@[simp] theorem State.setPhase_present (p : Phase) : (s.setPhase p).present = s.present := rfl
@[simp] theorem State.setPhase_buf (p : Phase) : (s.setPhase p).buf = s.buf := rfl
@[simp] theorem State.setPhase_frame (p : Phase) : (s.setPhase p).frame = s.frame := rfl
@[simp] theorem State.setPhase_build (p : Phase) : (s.setPhase p).build = s.build := rfl
@[simp] theorem State.setPhase_hung (p : Phase) : (s.setPhase p).hung = s.hung := rfl
@[simp] theorem State.setPhase_busLog (p : Phase) : (s.setPhase p).busLog = s.busLog := rfl
@[simp] theorem State.setPhase_out (p : Phase) : (s.setPhase p).out = s.out := rfl
@[simp] theorem State.setPhase_hostReads (p : Phase) : (s.setPhase p).hostReads = s.hostReads := rfl
@[simp] theorem State.setPhase_answers (p : Phase) : (s.setPhase p).answers = s.answers := rfl
@[simp] theorem State.setPhase_asked (p : Phase) : (s.setPhase p).asked = s.asked := rfl
@[simp] theorem State.setPhase_turns (p : Phase) : (s.setPhase p).turns = s.turns := rfl

@[simp] theorem State.countError_cmdLast : s.countError.cmdLast = s.cmdLast := rfl
@[simp] theorem State.countError_cmdResult : s.countError.cmdResult = s.cmdResult := rfl
@[simp] theorem State.countError_seqResult : s.countError.seqResult = s.seqResult := rfl
@[simp] theorem State.countError_rdata : s.countError.rdata = s.rdata := rfl
@[simp] theorem State.countError_run : s.countError.run = s.run := rfl
@[simp] theorem State.countError_ready : s.countError.ready = s.ready := rfl
@[simp] theorem State.countError_phase : s.countError.phase = s.phase := rfl
@[simp] theorem State.countError_errCount : s.countError.errCount = s.errCount + 1#32 := rfl
@[simp] theorem State.countError_frameCount : s.countError.frameCount = s.frameCount := rfl
@[simp] theorem State.countError_lastStatus : s.countError.lastStatus = s.lastStatus := rfl
@[simp] theorem State.countError_ident : s.countError.ident = s.ident := rfl
@[simp] theorem State.countError_cfgWrote : s.countError.cfgWrote = s.cfgWrote := rfl
@[simp] theorem State.countError_present : s.countError.present = s.present := rfl
@[simp] theorem State.countError_buf : s.countError.buf = s.buf := rfl
@[simp] theorem State.countError_frame : s.countError.frame = s.frame := rfl
@[simp] theorem State.countError_build : s.countError.build = s.build := rfl
@[simp] theorem State.countError_hung : s.countError.hung = s.hung := rfl
@[simp] theorem State.countError_busLog : s.countError.busLog = s.busLog := rfl
@[simp] theorem State.countError_out : s.countError.out = s.out := rfl
@[simp] theorem State.countError_hostReads : s.countError.hostReads = s.hostReads := rfl
@[simp] theorem State.countError_answers : s.countError.answers = s.answers := rfl
@[simp] theorem State.countError_asked : s.countError.asked = s.asked := rfl
@[simp] theorem State.countError_turns : s.countError.turns = s.turns := rfl

@[simp] theorem State.countFrame_cmdLast : s.countFrame.cmdLast = s.cmdLast := rfl
@[simp] theorem State.countFrame_cmdResult : s.countFrame.cmdResult = s.cmdResult := rfl
@[simp] theorem State.countFrame_seqResult : s.countFrame.seqResult = s.seqResult := rfl
@[simp] theorem State.countFrame_rdata : s.countFrame.rdata = s.rdata := rfl
@[simp] theorem State.countFrame_run : s.countFrame.run = s.run := rfl
@[simp] theorem State.countFrame_ready : s.countFrame.ready = s.ready := rfl
@[simp] theorem State.countFrame_phase : s.countFrame.phase = s.phase := rfl
@[simp] theorem State.countFrame_errCount : s.countFrame.errCount = s.errCount := rfl
@[simp] theorem State.countFrame_frameCount : s.countFrame.frameCount = s.frameCount + 1#32 := rfl
@[simp] theorem State.countFrame_lastStatus : s.countFrame.lastStatus = s.lastStatus := rfl
@[simp] theorem State.countFrame_ident : s.countFrame.ident = s.ident := rfl
@[simp] theorem State.countFrame_cfgWrote : s.countFrame.cfgWrote = s.cfgWrote := rfl
@[simp] theorem State.countFrame_present : s.countFrame.present = s.present := rfl
@[simp] theorem State.countFrame_buf : s.countFrame.buf = s.buf := rfl
@[simp] theorem State.countFrame_frame : s.countFrame.frame = s.frame := rfl
@[simp] theorem State.countFrame_build : s.countFrame.build = s.build := rfl
@[simp] theorem State.countFrame_hung : s.countFrame.hung = s.hung := rfl
@[simp] theorem State.countFrame_busLog : s.countFrame.busLog = s.busLog := rfl
@[simp] theorem State.countFrame_out : s.countFrame.out = s.out := rfl
@[simp] theorem State.countFrame_hostReads : s.countFrame.hostReads = s.hostReads := rfl
@[simp] theorem State.countFrame_answers : s.countFrame.answers = s.answers := rfl
@[simp] theorem State.countFrame_asked : s.countFrame.asked = s.asked := rfl
@[simp] theorem State.countFrame_turns : s.countFrame.turns = s.turns := rfl

@[simp] theorem State.setLastStatus_cmdLast (b : Byte) : (s.setLastStatus b).cmdLast = s.cmdLast := rfl
@[simp] theorem State.setLastStatus_cmdResult (b : Byte) : (s.setLastStatus b).cmdResult = s.cmdResult := rfl
@[simp] theorem State.setLastStatus_seqResult (b : Byte) : (s.setLastStatus b).seqResult = s.seqResult := rfl
@[simp] theorem State.setLastStatus_rdata (b : Byte) : (s.setLastStatus b).rdata = s.rdata := rfl
@[simp] theorem State.setLastStatus_run (b : Byte) : (s.setLastStatus b).run = s.run := rfl
@[simp] theorem State.setLastStatus_ready (b : Byte) : (s.setLastStatus b).ready = s.ready := rfl
@[simp] theorem State.setLastStatus_phase (b : Byte) : (s.setLastStatus b).phase = s.phase := rfl
@[simp] theorem State.setLastStatus_errCount (b : Byte) : (s.setLastStatus b).errCount = s.errCount := rfl
@[simp] theorem State.setLastStatus_frameCount (b : Byte) : (s.setLastStatus b).frameCount = s.frameCount := rfl
@[simp] theorem State.setLastStatus_lastStatus (b : Byte) : (s.setLastStatus b).lastStatus = b := rfl
@[simp] theorem State.setLastStatus_ident (b : Byte) : (s.setLastStatus b).ident = s.ident := rfl
@[simp] theorem State.setLastStatus_cfgWrote (b : Byte) : (s.setLastStatus b).cfgWrote = s.cfgWrote := rfl
@[simp] theorem State.setLastStatus_present (b : Byte) : (s.setLastStatus b).present = s.present := rfl
@[simp] theorem State.setLastStatus_buf (b : Byte) : (s.setLastStatus b).buf = s.buf := rfl
@[simp] theorem State.setLastStatus_frame (b : Byte) : (s.setLastStatus b).frame = s.frame := rfl
@[simp] theorem State.setLastStatus_build (b : Byte) : (s.setLastStatus b).build = s.build := rfl
@[simp] theorem State.setLastStatus_hung (b : Byte) : (s.setLastStatus b).hung = s.hung := rfl
@[simp] theorem State.setLastStatus_busLog (b : Byte) : (s.setLastStatus b).busLog = s.busLog := rfl
@[simp] theorem State.setLastStatus_out (b : Byte) : (s.setLastStatus b).out = s.out := rfl
@[simp] theorem State.setLastStatus_hostReads (b : Byte) : (s.setLastStatus b).hostReads = s.hostReads := rfl
@[simp] theorem State.setLastStatus_answers (b : Byte) : (s.setLastStatus b).answers = s.answers := rfl
@[simp] theorem State.setLastStatus_asked (b : Byte) : (s.setLastStatus b).asked = s.asked := rfl
@[simp] theorem State.setLastStatus_turns (b : Byte) : (s.setLastStatus b).turns = s.turns := rfl

@[simp] theorem State.setIdent_cmdLast (b : Byte) : (s.setIdent b).cmdLast = s.cmdLast := rfl
@[simp] theorem State.setIdent_cmdResult (b : Byte) : (s.setIdent b).cmdResult = s.cmdResult := rfl
@[simp] theorem State.setIdent_seqResult (b : Byte) : (s.setIdent b).seqResult = s.seqResult := rfl
@[simp] theorem State.setIdent_rdata (b : Byte) : (s.setIdent b).rdata = s.rdata := rfl
@[simp] theorem State.setIdent_run (b : Byte) : (s.setIdent b).run = s.run := rfl
@[simp] theorem State.setIdent_ready (b : Byte) : (s.setIdent b).ready = s.ready := rfl
@[simp] theorem State.setIdent_phase (b : Byte) : (s.setIdent b).phase = s.phase := rfl
@[simp] theorem State.setIdent_errCount (b : Byte) : (s.setIdent b).errCount = s.errCount := rfl
@[simp] theorem State.setIdent_frameCount (b : Byte) : (s.setIdent b).frameCount = s.frameCount := rfl
@[simp] theorem State.setIdent_lastStatus (b : Byte) : (s.setIdent b).lastStatus = s.lastStatus := rfl
@[simp] theorem State.setIdent_ident (b : Byte) : (s.setIdent b).ident = b := rfl
@[simp] theorem State.setIdent_cfgWrote (b : Byte) : (s.setIdent b).cfgWrote = s.cfgWrote := rfl
@[simp] theorem State.setIdent_present (b : Byte) : (s.setIdent b).present = s.present := rfl
@[simp] theorem State.setIdent_buf (b : Byte) : (s.setIdent b).buf = s.buf := rfl
@[simp] theorem State.setIdent_frame (b : Byte) : (s.setIdent b).frame = s.frame := rfl
@[simp] theorem State.setIdent_build (b : Byte) : (s.setIdent b).build = s.build := rfl
@[simp] theorem State.setIdent_hung (b : Byte) : (s.setIdent b).hung = s.hung := rfl
@[simp] theorem State.setIdent_busLog (b : Byte) : (s.setIdent b).busLog = s.busLog := rfl
@[simp] theorem State.setIdent_out (b : Byte) : (s.setIdent b).out = s.out := rfl
@[simp] theorem State.setIdent_hostReads (b : Byte) : (s.setIdent b).hostReads = s.hostReads := rfl
@[simp] theorem State.setIdent_answers (b : Byte) : (s.setIdent b).answers = s.answers := rfl
@[simp] theorem State.setIdent_asked (b : Byte) : (s.setIdent b).asked = s.asked := rfl
@[simp] theorem State.setIdent_turns (b : Byte) : (s.setIdent b).turns = s.turns := rfl

@[simp] theorem State.setCfgWrote_cmdLast (v : BitVec 2) : (s.setCfgWrote v).cmdLast = s.cmdLast := rfl
@[simp] theorem State.setCfgWrote_cmdResult (v : BitVec 2) : (s.setCfgWrote v).cmdResult = s.cmdResult := rfl
@[simp] theorem State.setCfgWrote_seqResult (v : BitVec 2) : (s.setCfgWrote v).seqResult = s.seqResult := rfl
@[simp] theorem State.setCfgWrote_rdata (v : BitVec 2) : (s.setCfgWrote v).rdata = s.rdata := rfl
@[simp] theorem State.setCfgWrote_run (v : BitVec 2) : (s.setCfgWrote v).run = s.run := rfl
@[simp] theorem State.setCfgWrote_ready (v : BitVec 2) : (s.setCfgWrote v).ready = s.ready := rfl
@[simp] theorem State.setCfgWrote_phase (v : BitVec 2) : (s.setCfgWrote v).phase = s.phase := rfl
@[simp] theorem State.setCfgWrote_errCount (v : BitVec 2) : (s.setCfgWrote v).errCount = s.errCount := rfl
@[simp] theorem State.setCfgWrote_frameCount (v : BitVec 2) : (s.setCfgWrote v).frameCount = s.frameCount := rfl
@[simp] theorem State.setCfgWrote_lastStatus (v : BitVec 2) : (s.setCfgWrote v).lastStatus = s.lastStatus := rfl
@[simp] theorem State.setCfgWrote_ident (v : BitVec 2) : (s.setCfgWrote v).ident = s.ident := rfl
@[simp] theorem State.setCfgWrote_cfgWrote (v : BitVec 2) : (s.setCfgWrote v).cfgWrote = v := rfl
@[simp] theorem State.setCfgWrote_present (v : BitVec 2) : (s.setCfgWrote v).present = s.present := rfl
@[simp] theorem State.setCfgWrote_buf (v : BitVec 2) : (s.setCfgWrote v).buf = s.buf := rfl
@[simp] theorem State.setCfgWrote_frame (v : BitVec 2) : (s.setCfgWrote v).frame = s.frame := rfl
@[simp] theorem State.setCfgWrote_build (v : BitVec 2) : (s.setCfgWrote v).build = s.build := rfl
@[simp] theorem State.setCfgWrote_hung (v : BitVec 2) : (s.setCfgWrote v).hung = s.hung := rfl
@[simp] theorem State.setCfgWrote_busLog (v : BitVec 2) : (s.setCfgWrote v).busLog = s.busLog := rfl
@[simp] theorem State.setCfgWrote_out (v : BitVec 2) : (s.setCfgWrote v).out = s.out := rfl
@[simp] theorem State.setCfgWrote_hostReads (v : BitVec 2) : (s.setCfgWrote v).hostReads = s.hostReads := rfl
@[simp] theorem State.setCfgWrote_answers (v : BitVec 2) : (s.setCfgWrote v).answers = s.answers := rfl
@[simp] theorem State.setCfgWrote_asked (v : BitVec 2) : (s.setCfgWrote v).asked = s.asked := rfl
@[simp] theorem State.setCfgWrote_turns (v : BitVec 2) : (s.setCfgWrote v).turns = s.turns := rfl

@[simp] theorem State.setPresent_cmdLast (a : Nat) (b : Bool) : (s.setPresent a b).cmdLast = s.cmdLast := rfl
@[simp] theorem State.setPresent_cmdResult (a : Nat) (b : Bool) : (s.setPresent a b).cmdResult = s.cmdResult := rfl
@[simp] theorem State.setPresent_seqResult (a : Nat) (b : Bool) : (s.setPresent a b).seqResult = s.seqResult := rfl
@[simp] theorem State.setPresent_rdata (a : Nat) (b : Bool) : (s.setPresent a b).rdata = s.rdata := rfl
@[simp] theorem State.setPresent_run (a : Nat) (b : Bool) : (s.setPresent a b).run = s.run := rfl
@[simp] theorem State.setPresent_ready (a : Nat) (b : Bool) : (s.setPresent a b).ready = s.ready := rfl
@[simp] theorem State.setPresent_phase (a : Nat) (b : Bool) : (s.setPresent a b).phase = s.phase := rfl
@[simp] theorem State.setPresent_errCount (a : Nat) (b : Bool) : (s.setPresent a b).errCount = s.errCount := rfl
@[simp] theorem State.setPresent_frameCount (a : Nat) (b : Bool) : (s.setPresent a b).frameCount = s.frameCount := rfl
@[simp] theorem State.setPresent_lastStatus (a : Nat) (b : Bool) : (s.setPresent a b).lastStatus = s.lastStatus := rfl
@[simp] theorem State.setPresent_ident (a : Nat) (b : Bool) : (s.setPresent a b).ident = s.ident := rfl
@[simp] theorem State.setPresent_cfgWrote (a : Nat) (b : Bool) : (s.setPresent a b).cfgWrote = s.cfgWrote := rfl
@[simp] theorem State.setPresent_present (a : Nat) (b : Bool) : (s.setPresent a b).present = setBit s.present a b := rfl
@[simp] theorem State.setPresent_buf (a : Nat) (b : Bool) : (s.setPresent a b).buf = s.buf := rfl
@[simp] theorem State.setPresent_frame (a : Nat) (b : Bool) : (s.setPresent a b).frame = s.frame := rfl
@[simp] theorem State.setPresent_build (a : Nat) (b : Bool) : (s.setPresent a b).build = s.build := rfl
@[simp] theorem State.setPresent_hung (a : Nat) (b : Bool) : (s.setPresent a b).hung = s.hung := rfl
@[simp] theorem State.setPresent_busLog (a : Nat) (b : Bool) : (s.setPresent a b).busLog = s.busLog := rfl
@[simp] theorem State.setPresent_out (a : Nat) (b : Bool) : (s.setPresent a b).out = s.out := rfl
@[simp] theorem State.setPresent_hostReads (a : Nat) (b : Bool) : (s.setPresent a b).hostReads = s.hostReads := rfl
@[simp] theorem State.setPresent_answers (a : Nat) (b : Bool) : (s.setPresent a b).answers = s.answers := rfl
@[simp] theorem State.setPresent_asked (a : Nat) (b : Bool) : (s.setPresent a b).asked = s.asked := rfl
@[simp] theorem State.setPresent_turns (a : Nat) (b : Bool) : (s.setPresent a b).turns = s.turns := rfl

@[simp] theorem State.loadBuf_cmdLast (d : List Byte) : (s.loadBuf d).cmdLast = s.cmdLast := rfl
@[simp] theorem State.loadBuf_cmdResult (d : List Byte) : (s.loadBuf d).cmdResult = s.cmdResult := rfl
@[simp] theorem State.loadBuf_seqResult (d : List Byte) : (s.loadBuf d).seqResult = s.seqResult := rfl
@[simp] theorem State.loadBuf_rdata (d : List Byte) : (s.loadBuf d).rdata = s.rdata := rfl
@[simp] theorem State.loadBuf_run (d : List Byte) : (s.loadBuf d).run = s.run := rfl
@[simp] theorem State.loadBuf_ready (d : List Byte) : (s.loadBuf d).ready = s.ready := rfl
@[simp] theorem State.loadBuf_phase (d : List Byte) : (s.loadBuf d).phase = s.phase := rfl
@[simp] theorem State.loadBuf_errCount (d : List Byte) : (s.loadBuf d).errCount = s.errCount := rfl
@[simp] theorem State.loadBuf_frameCount (d : List Byte) : (s.loadBuf d).frameCount = s.frameCount := rfl
@[simp] theorem State.loadBuf_lastStatus (d : List Byte) : (s.loadBuf d).lastStatus = s.lastStatus := rfl
@[simp] theorem State.loadBuf_ident (d : List Byte) : (s.loadBuf d).ident = s.ident := rfl
@[simp] theorem State.loadBuf_cfgWrote (d : List Byte) : (s.loadBuf d).cfgWrote = s.cfgWrote := rfl
@[simp] theorem State.loadBuf_present (d : List Byte) : (s.loadBuf d).present = s.present := rfl
@[simp] theorem State.loadBuf_buf (d : List Byte) : (s.loadBuf d).buf = fillBuf s.buf d := rfl
@[simp] theorem State.loadBuf_frame (d : List Byte) : (s.loadBuf d).frame = s.frame := rfl
@[simp] theorem State.loadBuf_build (d : List Byte) : (s.loadBuf d).build = s.build := rfl
@[simp] theorem State.loadBuf_hung (d : List Byte) : (s.loadBuf d).hung = s.hung := rfl
@[simp] theorem State.loadBuf_busLog (d : List Byte) : (s.loadBuf d).busLog = s.busLog := rfl
@[simp] theorem State.loadBuf_out (d : List Byte) : (s.loadBuf d).out = s.out := rfl
@[simp] theorem State.loadBuf_hostReads (d : List Byte) : (s.loadBuf d).hostReads = s.hostReads := rfl
@[simp] theorem State.loadBuf_answers (d : List Byte) : (s.loadBuf d).answers = s.answers := rfl
@[simp] theorem State.loadBuf_asked (d : List Byte) : (s.loadBuf d).asked = s.asked := rfl
@[simp] theorem State.loadBuf_turns (d : List Byte) : (s.loadBuf d).turns = s.turns := rfl

@[simp] theorem State.putBuf_cmdLast (i : Nat) (b : Byte) : (s.putBuf i b).cmdLast = s.cmdLast := rfl
@[simp] theorem State.putBuf_cmdResult (i : Nat) (b : Byte) : (s.putBuf i b).cmdResult = s.cmdResult := rfl
@[simp] theorem State.putBuf_seqResult (i : Nat) (b : Byte) : (s.putBuf i b).seqResult = s.seqResult := rfl
@[simp] theorem State.putBuf_rdata (i : Nat) (b : Byte) : (s.putBuf i b).rdata = s.rdata := rfl
@[simp] theorem State.putBuf_run (i : Nat) (b : Byte) : (s.putBuf i b).run = s.run := rfl
@[simp] theorem State.putBuf_ready (i : Nat) (b : Byte) : (s.putBuf i b).ready = s.ready := rfl
@[simp] theorem State.putBuf_phase (i : Nat) (b : Byte) : (s.putBuf i b).phase = s.phase := rfl
@[simp] theorem State.putBuf_errCount (i : Nat) (b : Byte) : (s.putBuf i b).errCount = s.errCount := rfl
@[simp] theorem State.putBuf_frameCount (i : Nat) (b : Byte) : (s.putBuf i b).frameCount = s.frameCount := rfl
@[simp] theorem State.putBuf_lastStatus (i : Nat) (b : Byte) : (s.putBuf i b).lastStatus = s.lastStatus := rfl
@[simp] theorem State.putBuf_ident (i : Nat) (b : Byte) : (s.putBuf i b).ident = s.ident := rfl
@[simp] theorem State.putBuf_cfgWrote (i : Nat) (b : Byte) : (s.putBuf i b).cfgWrote = s.cfgWrote := rfl
@[simp] theorem State.putBuf_present (i : Nat) (b : Byte) : (s.putBuf i b).present = s.present := rfl
@[simp] theorem State.putBuf_buf (i : Nat) (b : Byte) : (s.putBuf i b).buf = putByte s.buf i b := rfl
@[simp] theorem State.putBuf_frame (i : Nat) (b : Byte) : (s.putBuf i b).frame = s.frame := rfl
@[simp] theorem State.putBuf_build (i : Nat) (b : Byte) : (s.putBuf i b).build = s.build := rfl
@[simp] theorem State.putBuf_hung (i : Nat) (b : Byte) : (s.putBuf i b).hung = s.hung := rfl
@[simp] theorem State.putBuf_busLog (i : Nat) (b : Byte) : (s.putBuf i b).busLog = s.busLog := rfl
@[simp] theorem State.putBuf_out (i : Nat) (b : Byte) : (s.putBuf i b).out = s.out := rfl
@[simp] theorem State.putBuf_hostReads (i : Nat) (b : Byte) : (s.putBuf i b).hostReads = s.hostReads := rfl
@[simp] theorem State.putBuf_answers (i : Nat) (b : Byte) : (s.putBuf i b).answers = s.answers := rfl
@[simp] theorem State.putBuf_asked (i : Nat) (b : Byte) : (s.putBuf i b).asked = s.asked := rfl
@[simp] theorem State.putBuf_turns (i : Nat) (b : Byte) : (s.putBuf i b).turns = s.turns := rfl

@[simp] theorem State.setFrame_cmdLast (f : List Byte) : (s.setFrame f).cmdLast = s.cmdLast := rfl
@[simp] theorem State.setFrame_cmdResult (f : List Byte) : (s.setFrame f).cmdResult = s.cmdResult := rfl
@[simp] theorem State.setFrame_seqResult (f : List Byte) : (s.setFrame f).seqResult = s.seqResult := rfl
@[simp] theorem State.setFrame_rdata (f : List Byte) : (s.setFrame f).rdata = s.rdata := rfl
@[simp] theorem State.setFrame_run (f : List Byte) : (s.setFrame f).run = s.run := rfl
@[simp] theorem State.setFrame_ready (f : List Byte) : (s.setFrame f).ready = s.ready := rfl
@[simp] theorem State.setFrame_phase (f : List Byte) : (s.setFrame f).phase = s.phase := rfl
@[simp] theorem State.setFrame_errCount (f : List Byte) : (s.setFrame f).errCount = s.errCount := rfl
@[simp] theorem State.setFrame_frameCount (f : List Byte) : (s.setFrame f).frameCount = s.frameCount := rfl
@[simp] theorem State.setFrame_lastStatus (f : List Byte) : (s.setFrame f).lastStatus = s.lastStatus := rfl
@[simp] theorem State.setFrame_ident (f : List Byte) : (s.setFrame f).ident = s.ident := rfl
@[simp] theorem State.setFrame_cfgWrote (f : List Byte) : (s.setFrame f).cfgWrote = s.cfgWrote := rfl
@[simp] theorem State.setFrame_present (f : List Byte) : (s.setFrame f).present = s.present := rfl
@[simp] theorem State.setFrame_buf (f : List Byte) : (s.setFrame f).buf = s.buf := rfl
@[simp] theorem State.setFrame_frame (f : List Byte) : (s.setFrame f).frame = f := rfl
@[simp] theorem State.setFrame_build (f : List Byte) : (s.setFrame f).build = s.build := rfl
@[simp] theorem State.setFrame_hung (f : List Byte) : (s.setFrame f).hung = s.hung := rfl
@[simp] theorem State.setFrame_busLog (f : List Byte) : (s.setFrame f).busLog = s.busLog := rfl
@[simp] theorem State.setFrame_out (f : List Byte) : (s.setFrame f).out = s.out := rfl
@[simp] theorem State.setFrame_hostReads (f : List Byte) : (s.setFrame f).hostReads = s.hostReads := rfl
@[simp] theorem State.setFrame_answers (f : List Byte) : (s.setFrame f).answers = s.answers := rfl
@[simp] theorem State.setFrame_asked (f : List Byte) : (s.setFrame f).asked = s.asked := rfl
@[simp] theorem State.setFrame_turns (f : List Byte) : (s.setFrame f).turns = s.turns := rfl

@[simp] theorem State.sink_cmdLast (d : List Byte) : (s.sink d).cmdLast = s.cmdLast := rfl
@[simp] theorem State.sink_cmdResult (d : List Byte) : (s.sink d).cmdResult = s.cmdResult := rfl
@[simp] theorem State.sink_seqResult (d : List Byte) : (s.sink d).seqResult = s.seqResult := rfl
@[simp] theorem State.sink_rdata (d : List Byte) : (s.sink d).rdata = s.rdata := rfl
@[simp] theorem State.sink_run (d : List Byte) : (s.sink d).run = s.run := rfl
@[simp] theorem State.sink_ready (d : List Byte) : (s.sink d).ready = s.ready := rfl
@[simp] theorem State.sink_phase (d : List Byte) : (s.sink d).phase = s.phase := rfl
@[simp] theorem State.sink_errCount (d : List Byte) : (s.sink d).errCount = s.errCount := rfl
@[simp] theorem State.sink_frameCount (d : List Byte) : (s.sink d).frameCount = s.frameCount := rfl
@[simp] theorem State.sink_lastStatus (d : List Byte) : (s.sink d).lastStatus = s.lastStatus := rfl
@[simp] theorem State.sink_ident (d : List Byte) : (s.sink d).ident = s.ident := rfl
@[simp] theorem State.sink_cfgWrote (d : List Byte) : (s.sink d).cfgWrote = s.cfgWrote := rfl
@[simp] theorem State.sink_present (d : List Byte) : (s.sink d).present = s.present := rfl
@[simp] theorem State.sink_buf (d : List Byte) : (s.sink d).buf = s.buf := rfl
@[simp] theorem State.sink_frame (d : List Byte) : (s.sink d).frame = s.frame := rfl
@[simp] theorem State.sink_build (d : List Byte) : (s.sink d).build = s.build := rfl
@[simp] theorem State.sink_hung (d : List Byte) : (s.sink d).hung = s.hung := rfl
@[simp] theorem State.sink_busLog (d : List Byte) : (s.sink d).busLog = s.busLog := rfl
@[simp] theorem State.sink_out (d : List Byte) : (s.sink d).out = s.out ++ d := rfl
@[simp] theorem State.sink_hostReads (d : List Byte) : (s.sink d).hostReads = s.hostReads := rfl
@[simp] theorem State.sink_answers (d : List Byte) : (s.sink d).answers = s.answers := rfl
@[simp] theorem State.sink_asked (d : List Byte) : (s.sink d).asked = s.asked := rfl
@[simp] theorem State.sink_turns (d : List Byte) : (s.sink d).turns = s.turns := rfl

@[simp] theorem State.logTxn_cmdLast (e : BusEntry) : (s.logTxn e).cmdLast = s.cmdLast := rfl
@[simp] theorem State.logTxn_cmdResult (e : BusEntry) : (s.logTxn e).cmdResult = s.cmdResult := rfl
@[simp] theorem State.logTxn_seqResult (e : BusEntry) : (s.logTxn e).seqResult = s.seqResult := rfl
@[simp] theorem State.logTxn_rdata (e : BusEntry) : (s.logTxn e).rdata = s.rdata := rfl
@[simp] theorem State.logTxn_run (e : BusEntry) : (s.logTxn e).run = s.run := rfl
@[simp] theorem State.logTxn_ready (e : BusEntry) : (s.logTxn e).ready = s.ready := rfl
@[simp] theorem State.logTxn_phase (e : BusEntry) : (s.logTxn e).phase = s.phase := rfl
@[simp] theorem State.logTxn_errCount (e : BusEntry) : (s.logTxn e).errCount = s.errCount := rfl
@[simp] theorem State.logTxn_frameCount (e : BusEntry) : (s.logTxn e).frameCount = s.frameCount := rfl
@[simp] theorem State.logTxn_lastStatus (e : BusEntry) : (s.logTxn e).lastStatus = s.lastStatus := rfl
@[simp] theorem State.logTxn_ident (e : BusEntry) : (s.logTxn e).ident = s.ident := rfl
@[simp] theorem State.logTxn_cfgWrote (e : BusEntry) : (s.logTxn e).cfgWrote = s.cfgWrote := rfl
@[simp] theorem State.logTxn_present (e : BusEntry) : (s.logTxn e).present = s.present := rfl
@[simp] theorem State.logTxn_buf (e : BusEntry) : (s.logTxn e).buf = s.buf := rfl
@[simp] theorem State.logTxn_frame (e : BusEntry) : (s.logTxn e).frame = s.frame := rfl
@[simp] theorem State.logTxn_build (e : BusEntry) : (s.logTxn e).build = s.build := rfl
@[simp] theorem State.logTxn_hung (e : BusEntry) : (s.logTxn e).hung = s.hung := rfl
@[simp] theorem State.logTxn_busLog (e : BusEntry) : (s.logTxn e).busLog = s.busLog ++ [e] := rfl
@[simp] theorem State.logTxn_out (e : BusEntry) : (s.logTxn e).out = s.out := rfl
@[simp] theorem State.logTxn_hostReads (e : BusEntry) : (s.logTxn e).hostReads = s.hostReads := rfl
@[simp] theorem State.logTxn_answers (e : BusEntry) : (s.logTxn e).answers = s.answers.tail := rfl
@[simp] theorem State.logTxn_asked (e : BusEntry) : (s.logTxn e).asked = s.asked + 1 := rfl
@[simp] theorem State.logTxn_turns (e : BusEntry) : (s.logTxn e).turns = s.turns := rfl

@[simp] theorem State.hangOn_cmdLast (a : Agent) (t : BusTxn) : (s.hangOn a t).cmdLast = s.cmdLast := rfl
@[simp] theorem State.hangOn_cmdResult (a : Agent) (t : BusTxn) : (s.hangOn a t).cmdResult = s.cmdResult := rfl
@[simp] theorem State.hangOn_seqResult (a : Agent) (t : BusTxn) : (s.hangOn a t).seqResult = s.seqResult := rfl
@[simp] theorem State.hangOn_rdata (a : Agent) (t : BusTxn) : (s.hangOn a t).rdata = s.rdata := rfl
@[simp] theorem State.hangOn_run (a : Agent) (t : BusTxn) : (s.hangOn a t).run = s.run := rfl
@[simp] theorem State.hangOn_ready (a : Agent) (t : BusTxn) : (s.hangOn a t).ready = s.ready := rfl
@[simp] theorem State.hangOn_phase (a : Agent) (t : BusTxn) : (s.hangOn a t).phase = s.phase := rfl
@[simp] theorem State.hangOn_errCount (a : Agent) (t : BusTxn) : (s.hangOn a t).errCount = s.errCount := rfl
@[simp] theorem State.hangOn_frameCount (a : Agent) (t : BusTxn) : (s.hangOn a t).frameCount = s.frameCount := rfl
@[simp] theorem State.hangOn_lastStatus (a : Agent) (t : BusTxn) : (s.hangOn a t).lastStatus = s.lastStatus := rfl
@[simp] theorem State.hangOn_ident (a : Agent) (t : BusTxn) : (s.hangOn a t).ident = s.ident := rfl
@[simp] theorem State.hangOn_cfgWrote (a : Agent) (t : BusTxn) : (s.hangOn a t).cfgWrote = s.cfgWrote := rfl
@[simp] theorem State.hangOn_present (a : Agent) (t : BusTxn) : (s.hangOn a t).present = s.present := rfl
@[simp] theorem State.hangOn_buf (a : Agent) (t : BusTxn) : (s.hangOn a t).buf = s.buf := rfl
@[simp] theorem State.hangOn_frame (a : Agent) (t : BusTxn) : (s.hangOn a t).frame = s.frame := rfl
@[simp] theorem State.hangOn_build (a : Agent) (t : BusTxn) : (s.hangOn a t).build = s.build := rfl
@[simp] theorem State.hangOn_hung (a : Agent) (t : BusTxn) : (s.hangOn a t).hung = some ⟨a, t⟩ := rfl
@[simp] theorem State.hangOn_busLog (a : Agent) (t : BusTxn) : (s.hangOn a t).busLog = s.busLog := rfl
@[simp] theorem State.hangOn_out (a : Agent) (t : BusTxn) : (s.hangOn a t).out = s.out := rfl
@[simp] theorem State.hangOn_hostReads (a : Agent) (t : BusTxn) : (s.hangOn a t).hostReads = s.hostReads := rfl
@[simp] theorem State.hangOn_answers (a : Agent) (t : BusTxn) : (s.hangOn a t).answers = s.answers.tail := rfl
@[simp] theorem State.hangOn_asked (a : Agent) (t : BusTxn) : (s.hangOn a t).asked = s.asked + 1 := rfl
@[simp] theorem State.hangOn_turns (a : Agent) (t : BusTxn) : (s.hangOn a t).turns = s.turns := rfl

@[simp] theorem State.noteRead_cmdLast (o : Nat) (w : Word) : (s.noteRead o w).cmdLast = s.cmdLast := rfl
@[simp] theorem State.noteRead_cmdResult (o : Nat) (w : Word) : (s.noteRead o w).cmdResult = s.cmdResult := rfl
@[simp] theorem State.noteRead_seqResult (o : Nat) (w : Word) : (s.noteRead o w).seqResult = s.seqResult := rfl
@[simp] theorem State.noteRead_rdata (o : Nat) (w : Word) : (s.noteRead o w).rdata = s.rdata := rfl
@[simp] theorem State.noteRead_run (o : Nat) (w : Word) : (s.noteRead o w).run = s.run := rfl
@[simp] theorem State.noteRead_ready (o : Nat) (w : Word) : (s.noteRead o w).ready = s.ready := rfl
@[simp] theorem State.noteRead_phase (o : Nat) (w : Word) : (s.noteRead o w).phase = s.phase := rfl
@[simp] theorem State.noteRead_errCount (o : Nat) (w : Word) : (s.noteRead o w).errCount = s.errCount := rfl
@[simp] theorem State.noteRead_frameCount (o : Nat) (w : Word) : (s.noteRead o w).frameCount = s.frameCount := rfl
@[simp] theorem State.noteRead_lastStatus (o : Nat) (w : Word) : (s.noteRead o w).lastStatus = s.lastStatus := rfl
@[simp] theorem State.noteRead_ident (o : Nat) (w : Word) : (s.noteRead o w).ident = s.ident := rfl
@[simp] theorem State.noteRead_cfgWrote (o : Nat) (w : Word) : (s.noteRead o w).cfgWrote = s.cfgWrote := rfl
@[simp] theorem State.noteRead_present (o : Nat) (w : Word) : (s.noteRead o w).present = s.present := rfl
@[simp] theorem State.noteRead_buf (o : Nat) (w : Word) : (s.noteRead o w).buf = s.buf := rfl
@[simp] theorem State.noteRead_frame (o : Nat) (w : Word) : (s.noteRead o w).frame = s.frame := rfl
@[simp] theorem State.noteRead_build (o : Nat) (w : Word) : (s.noteRead o w).build = s.build := rfl
@[simp] theorem State.noteRead_hung (o : Nat) (w : Word) : (s.noteRead o w).hung = s.hung := rfl
@[simp] theorem State.noteRead_busLog (o : Nat) (w : Word) : (s.noteRead o w).busLog = s.busLog := rfl
@[simp] theorem State.noteRead_out (o : Nat) (w : Word) : (s.noteRead o w).out = s.out := rfl
@[simp] theorem State.noteRead_hostReads (o : Nat) (w : Word) : (s.noteRead o w).hostReads = s.hostReads ++ [(o, w)] := rfl
@[simp] theorem State.noteRead_answers (o : Nat) (w : Word) : (s.noteRead o w).answers = s.answers := rfl
@[simp] theorem State.noteRead_asked (o : Nat) (w : Word) : (s.noteRead o w).asked = s.asked := rfl
@[simp] theorem State.noteRead_turns (o : Nat) (w : Word) : (s.noteRead o w).turns = s.turns := rfl

end Sys2Proof.Machine
end

