-- ==== Sys2Proof/Laws/Ops.lean ====
section
/-! SUPPORT. One lemma for each shared operation that says once everything it can do. -/

namespace Sys2Proof.Machine

/-! ## Arrays -/

theorem getLsbD_setBit (v : BitVec 128) (a : Nat) (b : Bool) (i : Nat) (ha : a < 128) :
    (setBit v a b).getLsbD i = if i = a then b else v.getLsbD i := by
  by_cases hi : i < 128
  · have h1 : (1#128 <<< a).getLsbD i = decide (i = a) := by
      rw [BitVec.getLsbD_shiftLeft, BitVec.getLsbD_one]
      by_cases h : i = a
      · simp [h, ha]
      · simp only [h, hi, decide_true, Bool.true_and, decide_false]
        by_cases h2 : i < a
        · simp [h2]
        · have h3 : i - a ≠ 0 := by omega
          simp [h3]
    unfold setBit
    rw [BitVec.getLsbD_or, BitVec.getLsbD_and, BitVec.getLsbD_not, h1]
    cases b <;> by_cases h : i = a <;> simp_all
  · have : i ≠ a := by omega
    rw [if_neg this, BitVec.getLsbD_of_ge _ _ (by omega), BitVec.getLsbD_of_ge _ _ (by omega)]

theorem presentBit_setBit (v : BitVec 128) (a a' : DevAddr) (b : Bool) :
    presentBit (setBit v a.toNat b) a' = if a' = a then b else presentBit v a' := by
  unfold presentBit
  rw [getLsbD_setBit _ _ _ _ (by have := a.isLt; omega)]
  simp [BitVec.toNat_inj]

theorem getElem_fillBuf (buf : Vector Byte burstMax) (d : List Byte) (k : Nat) (hk : k < burstMax) :
    (fillBuf buf d)[k] = d.getD k buf[k] := by
  simp only [fillBuf, Vector.getElem_mk, List.getElem_toArray, List.getD_eq_getElem?_getD]
  by_cases h : k < d.length
  · rw [List.getElem_append_left (by simp; omega)]
    simp [h]
  · rw [List.getElem_append_right (by simp; omega)]
    simp only [List.getElem_drop, List.length_take, Vector.getElem_toList]
    rw [List.getElem?_eq_none (by omega)]
    simp only [Option.getD_none]
    congr 1
    omega

theorem getElem_putByte (buf : Vector Byte burstMax) (i : Nat) (b : Byte) (k : Nat) (hk : k < burstMax) :
    (putByte buf i b)[k] = if i = k then b else buf[k] := by
  simp [putByte, Vector.getElem_setIfInBounds]

theorem getElem_rawSample (buf : Vector Byte burstMax) (k : Nat) (hk : k < sampleBytes) :
    (rawSample buf)[k] = buf[k]'(by unfold burstMax; unfold sampleBytes at hk; omega) := by
  unfold sampleBytes at hk
  rcases k with _ | _ | _ | _ | _ | _ | k <;> first | rfl | omega

/-! ## The parts of a command -/

@[simp] theorem Progress.andThen_done {α β : Type} (a : α) (s : State) (k : α → State → Progress β) :
    (Progress.done a s).andThen k = k a s := rfl

@[simp] theorem Progress.andThen_stuck {α β : Type} (s : State) (k : α → State → Progress β) :
    (Progress.stuck s).andThen k = .stuck s := rfl

@[simp] theorem Progress.state_done {α : Type} (a : α) (s : State) : (Progress.done a s).state = s := rfl

@[simp] theorem Progress.state_stuck {α : Type} (s : State) : (Progress.stuck s : Progress α).state = s := rfl

/-- Everything a bus transaction can do: it completes with one of three results and one entry of BUS_LOG, or its agent is
stuck in it. -/
theorem transact_cases (who : Agent) (t : BusTxn) (s : State) :
    (∃ d, s.nextAnswer t = .served d ∧
      transact who t s = .done ⟨.success, bytesOf t d⟩ (s.logTxn ⟨t, .success, logData t d⟩)) ∨
    (s.nextAnswer t = .noAck ∧ transact who t s = .done ⟨.noAck, []⟩ (s.logTxn ⟨t, .noAck, none⟩)) ∨
    (s.nextAnswer t = .busError ∧ transact who t s = .done ⟨.busError, []⟩ (s.logTxn ⟨t, .busError, none⟩)) ∨
    (s.nextAnswer t = .silent ∧ transact who t s = .stuck (s.hangOn who t)) := by
  unfold transact
  cases h : s.nextAnswer t <;> simp

theorem transact_served {who : Agent} {t : BusTxn} {s : State} {d : Vector Byte burstMax}
    (h : s.nextAnswer t = .served d) :
    transact who t s = .done ⟨.success, bytesOf t d⟩ (s.logTxn ⟨t, .success, logData t d⟩) := by
  simp [transact, h]

theorem transact_noAck {who : Agent} {t : BusTxn} {s : State} (h : s.nextAnswer t = .noAck) :
    transact who t s = .done ⟨.noAck, []⟩ (s.logTxn ⟨t, .noAck, none⟩) := by
  simp [transact, h]

theorem transact_busError {who : Agent} {t : BusTxn} {s : State} (h : s.nextAnswer t = .busError) :
    transact who t s = .done ⟨.busError, []⟩ (s.logTxn ⟨t, .busError, none⟩) := by
  simp [transact, h]

theorem transact_silent {who : Agent} {t : BusTxn} {s : State} (h : s.nextAnswer t = .silent) :
    transact who t s = .stuck (s.hangOn who t) := by
  simp [transact, h]

/-- The issue step: IllegalCommand, Busy, or the command's own rule; never a stop. -/
theorem issue_cases (i : Instr) (s : State) (body : State → State) :
    (i.wf = false ∧ issue i s body = .next (s.setCmdResult .illegalCommand)) ∨
    (i.wf = true ∧ s.run = true ∧ issue i s body = .next (s.setCmdResult .busy)) ∨
    (i.wf = true ∧ s.run = false ∧ issue i s body = .next (body s)) := by
  unfold issue
  cases i.wf <;> cases h : s.run <;> simp

theorem issue_run {i : Instr} {s : State} {body : State → State} (hw : i.wf = true) (hr : s.run = false) :
    issue i s body = .next (body s) := by
  simp [issue, hw, hr]

/-! ## Conversion and frames -/

theorem leBytes_length (n : Nat) (v : Int) : (leBytes n v).length = n := by
  simp [leBytes]

theorem axisField_length (b : Build) (w : BitVec 16) :
    (axisField b w).length = match b.mode with | .count => 2 | .physical => 4 := by
  unfold axisField
  cases b.mode <;> simp [leBytes_length]

theorem pack_length (b : Build) (raw : Vector Byte sampleBytes) : (pack b raw).length = flen b.mode := by
  simp only [pack, List.length_cons, List.length_append, List.length_nil, axisField_length]
  cases b.mode <;> rfl

/-- Everything the frame packer and the sink do with a frame of the right length. -/
theorem emitFrame_of_length (s : State) (h : s.frame.length = flen s.build.mode) :
    s.emitFrame = (s.sink s.frame).countFrame := by
  simp [State.emitFrame, ← h]

end Sys2Proof.Machine
end

