-- ==== Sys2Proof/Laws/PerInstr.lean ====
section
/-! SUPPORT. The family OpcodeByte: what the low byte of each command's encoding is (30_encoding R101, R109). -/

namespace Sys2Proof.Laws

/-- The OP value of each row of the opcode map (30_encoding R109). -/
def opcodeOf : Instr → BitVec 8
  | .probe _ => 0x01#8
  | .rdreg _ _ => 0x02#8
  | .wrreg _ _ _ => 0x03#8
  | .rdburst _ _ _ => 0x04#8
  | .scan => 0x05#8
  | .config => 0x06#8
  | .ldbuf _ _ => 0x07#8
  | .convert => 0x08#8
  | .emit => 0x09#8
  | .start => 0x0A#8

theorem fieldOp_commandWord (op : BitVec 8) (dev : DevAddr) (reg : RegAddr) (data : Byte) :
    fieldOp (commandWord op dev reg data) = op := by
  unfold fieldOp commandWord
  exact BitVec.extractLsb'_append_eq_right

/-- The encoding of an instruction carries its row's OP value in bits [7:0]. -/
def OpcodeByte.Statement (i : Instr) : Prop := fieldOp (encode i) = opcodeOf i

theorem OpcodeByte.probe (dev : DevAddr) : OpcodeByte.Statement (.probe dev) := fieldOp_commandWord _ _ _ _
theorem OpcodeByte.rdreg (dev : DevAddr) (reg : RegAddr) : OpcodeByte.Statement (.rdreg dev reg) :=
  fieldOp_commandWord _ _ _ _
theorem OpcodeByte.wrreg (dev : DevAddr) (reg : RegAddr) (data : Byte) : OpcodeByte.Statement (.wrreg dev reg data) :=
  fieldOp_commandWord _ _ _ _
theorem OpcodeByte.rdburst (dev : DevAddr) (reg : RegAddr) (count : BitVec 8) :
    OpcodeByte.Statement (.rdburst dev reg count) := fieldOp_commandWord _ _ _ _
theorem OpcodeByte.scan : OpcodeByte.Statement .scan := fieldOp_commandWord _ _ _ _
theorem OpcodeByte.config : OpcodeByte.Statement .config := fieldOp_commandWord _ _ _ _
theorem OpcodeByte.ldbuf (idx : BitVec 8) (data : Byte) : OpcodeByte.Statement (.ldbuf idx data) :=
  fieldOp_commandWord _ _ _ _
theorem OpcodeByte.convert : OpcodeByte.Statement .convert := fieldOp_commandWord _ _ _ _
theorem OpcodeByte.emit : OpcodeByte.Statement .emit := fieldOp_commandWord _ _ _ _
theorem OpcodeByte.start : OpcodeByte.Statement .start := fieldOp_commandWord _ _ _ _

end Sys2Proof.Laws
end

