-- ==== Sys2Proof/Tests/Slice0.lean ====
section
/-! SUPPORT. Tests with the values of spec/95_test_vectors.md (V1 to V11, E1, E2, P3, P4), and for every statement with
hypotheses a state that meets them. -/

namespace Sys2Proof.Tests

open Sys2Proof Sys2Proof.Machine

/-- What a served read returns: the bytes, then zeros. -/
def served (bytes : List Byte) : BusAnswer := .served (fillBuf (Vector.replicate burstMax 0#8) bytes)

/-- A state of a CountMode block with the informative addresses, right after reset but for the fields given. -/
def block (answers : List BusAnswer) (turns : List Turn) (run ready : Bool) (phase : Phase) : State :=
  { State.resetIn (Config.informative .count) with
    answers := answers, turns := turns, run := run, ready := ready, phase := phase }

/-- Before START, with a script for the bus. -/
def idleBlock (answers : List BusAnswer) : State := block answers [] false false .idle

/-- After START, READY = 1, at the given phase, the sequencer's turn next. -/
def runningBlock (answers : List BusAnswer) (phase : Phase) : State := block answers [] true true phase

/-- The host is about to write a word to offset 0x00. -/
def hostBlock (w : Word) (run : Bool) : State := block [] [.host (.write 0x00 4 w)] run false .idle

/-- The outcome is a next state with the property. -/
def nextWith (o : Host.Outcome State Fault Refusal) (p : State → Bool) : Bool :=
  match o with
  | .next t => p t
  | .fault _ => false
  | .refused _ => false

/-! ## Well-formedness: the checks of 30_encoding R106, R107 refuse -/

theorem test_wf_refuses_count_zero : (Instr.rdburst 0x18#7 0x28#8 0#8).wf = false := by decide
theorem test_wf_refuses_count_33 : (Instr.rdburst 0x18#7 0x00#8 33#8).wf = false := by decide
theorem test_wf_refuses_burst_past_ff : (Instr.rdburst 0x18#7 0xE1#8 32#8).wf = false := by decide
theorem test_wf_refuses_index_32 : (Instr.ldbuf 32#8 0#8).wf = false := by decide
theorem test_wf_bounds :
    (Instr.rdburst 0x18#7 0xE0#8 32#8).wf = true ∧ (Instr.rdburst 0x18#7 0xFF#8 1#8).wf = true ∧
      (Instr.ldbuf 31#8 0xFF#8).wf = true ∧ (Instr.ldbuf 0#8 0#8).wf = true := by decide

/-! ## Decoding: words written out from 30_encoding R101, R103 and V1 -/

/-- DEV in bits [14:8], OP 0x01. -/
theorem test_decode_probe :
    decode 0b00000000_00000000_0_0011000_00000001#32 = .ok (.probe 0x18#7) ∧
      decode 0x00007F01#32 = .ok (.probe 0x7F#7) := by decide
theorem test_decode_rdreg :
    decode 0b00000000_00100111_0_0011000_00000010#32 = .ok (.rdreg 0x18#7 0x27#8) ∧
      decode 0x00FF7F02#32 = .ok (.rdreg 0x7F#7 0xFF#8) := by decide
theorem test_decode_wrreg :
    decode 0b01010111_00100000_0_0011000_00000011#32 = .ok (.wrreg 0x18#7 0x20#8 0x57#8) ∧
      decode 0xFFFF7F03#32 = .ok (.wrreg 0x7F#7 0xFF#8 0xFF#8) := by decide
theorem test_decode_rdburst :
    decode 0b00000110_00101000_0_0011000_00000100#32 = .ok (.rdburst 0x18#7 0x28#8 6#8) ∧
      decode 0x20E01804#32 = .ok (.rdburst 0x18#7 0xE0#8 32#8) ∧
      decode 0x01FF1804#32 = .ok (.rdburst 0x18#7 0xFF#8 1#8) := by decide
theorem test_decode_ldbuf :
    decode 0b00010000_00000101_0_0000000_00000111#32 = .ok (.ldbuf 5#8 0x10#8) ∧
      decode 0xFF1F0007#32 = .ok (.ldbuf 31#8 0xFF#8) := by decide
theorem test_decode_no_operands :
    decode 0x00000005#32 = .ok .scan ∧ decode 0x00000006#32 = .ok .config ∧ decode 0x00000008#32 = .ok .convert ∧
      decode 0x00000009#32 = .ok .emit ∧ decode 0x0000000A#32 = .ok .start := by decide
theorem test_decode_reserved_op :
    decode 0x00000000#32 = .error .reservedOp ∧ decode 0x0000000B#32 = .error .reservedOp ∧
      decode 0x000000FF#32 = .error .reservedOp ∧ decode 0x00000010#32 = .error .reservedOp := by decide
theorem test_decode_reserved_bits :
    decode 0x00011801#32 = .error .reservedBits ∧ decode 0x01001801#32 = .error .reservedBits ∧
      decode 0x00009801#32 = .error .reservedBits ∧ decode 0x01271802#32 = .error .reservedBits ∧
      decode 0x57209803#32 = .error .reservedBits ∧ decode 0x00000105#32 = .error .reservedBits ∧
      decode 0x80000006#32 = .error .reservedBits ∧ decode 0x00000107#32 = .error .reservedBits ∧
      decode 0x00008007#32 = .error .reservedBits ∧ decode 0x0100000A#32 = .error .reservedBits := by decide
theorem test_decode_operand_range :
    decode 0x00281804#32 = .error .operandRange ∧ decode 0x02FF1804#32 = .error .operandRange ∧
      decode 0x20E11804#32 = .error .operandRange ∧ decode 0x21001804#32 = .error .operandRange ∧
      decode 0x00200007#32 = .error .operandRange := by decide
theorem test_decode_table_word :
    decodeTableWord 32 0x57201803 = some (.wrreg 0x18#7 0x20#8 0x57#8) ∧ decodeTableWord 32 0x0B = none := by decide

/-! ## The assembler (30_encoding R119, R120) -/

theorem test_assemble_rdburst :
    assembleText (Config.informative .count) "RDBURST 0x18, 0x28, 6".toList = some [0x06281804#32] := by decide
theorem test_assemble_pseudo :
    assembleText (Config.informative .count) "RDAXES 24".toList = some [0x06281804#32] ∧
      assembleText (Config.informative .count) "RDSTATUS 0x18".toList = some [0x00271802#32] ∧
      assembleText (Config.informative .count) "RDIDENT 0x18".toList = some [0x000F1802#32] := by decide
/-- P1, lines 1 to 6. -/
theorem test_assemble_ldraw :
    assembleText (Config.informative .count) "LDRAW 0x00, 0x40, 0x00, 0x20, 0x00, 0x10".toList =
      some [0x00000007#32, 0x40010007#32, 0x00020007#32, 0x20030007#32, 0x00040007#32, 0x10050007#32] := by decide
theorem test_assemble_refuses :
    assembleText (Config.informative .count) "LDBUF 32, 0".toList = none ∧
      assembleText (Config.informative .count) "PROBE 0x80".toList = none ∧
      assembleText (Config.informative .count) "SCAN 1".toList = none := by decide

/-! ## The issue step -/

/-- P4, line 9: IllegalCommand comes before Busy. -/
theorem test_illegal_before_busy :
    nextWith (step (hostBlock 0x0000000B#32 true)) (fun t =>
      t.cmdLast = 0x0000000B#32 ∧ t.cmdResult = .illegalCommand ∧ t.run = true) = true := by decide
/-- P3, step 9. -/
theorem test_busy_issues_nothing :
    nextWith (step (hostBlock 0x00001801#32 true)) (fun t =>
      t.cmdLast = 0x00001801#32 ∧ t.cmdResult = .busy ∧ t.busLog = []) = true := by decide
/-- From reset, a placed word is the next step's command. -/
theorem test_fetch_word_runs_first :
    nextWith (step (State.reset.withFetchWord 32 0xAB000007)) (fun t =>
      t.cmdLast = 0xAB000007#32 ∧ t.cmdResult = .success ∧ t.buf[0] = 0xAB#8) = true := by decide

/-! ## Bus commands (V7 to V9) -/

theorem test_probe_present :
    nextWith (exec (.probe 0x18#7) (idleBlock [served []])) (fun t =>
      t.cmdResult = .success ∧ hostWord t 0x20 = 0x01000000#32 ∧ t.busLog = [⟨.probe 0x18#7, .success, none⟩]) = true := by
  decide
theorem test_probe_bus_error_clears :
    nextWith (exec (.probe 0x18#7) ((idleBlock [.busError]).setPresent 0x18 true)) (fun t =>
      t.cmdResult = .busError ∧ hostWord t 0x20 = 0#32) = true := by decide
theorem test_rdreg_data :
    nextWith (exec (.rdreg 0x18#7 0x0F#8) (idleBlock [served [0x33#8]])) (fun t =>
      t.cmdResult = .success ∧ t.rdata = 0x33#8 ∧
        t.busLog = [⟨.read 0x18#7 0x0F#8 1, .success, some [0x33#8]⟩]) = true := by decide
theorem test_rdreg_failure_keeps_rdata :
    nextWith (exec (.rdreg 0x18#7 0x27#8) ((idleBlock [.noAck]).setRdata 0x5A#8)) (fun t =>
      t.cmdResult = .noAck ∧ t.rdata = 0x5A#8 ∧ t.busLog = [⟨.read 0x18#7 0x27#8 1, .noAck, none⟩]) = true := by decide
theorem test_wrreg :
    nextWith (exec (.wrreg 0x18#7 0x20#8 0x57#8) (idleBlock [served []])) (fun t =>
      t.cmdResult = .success ∧ t.busLog = [⟨.write 0x18#7 0x20#8 0x57#8, .success, none⟩]) = true := by decide
theorem test_rdburst_six :
    nextWith (exec (.rdburst 0x18#7 0x28#8 6#8)
      (idleBlock [served [0x11#8, 0x22#8, 0x33#8, 0x44#8, 0x55#8, 0x66#8, 0x77#8]])) (fun t =>
        t.cmdResult = .success ∧ hostWord t 0x40 = 0x44332211#32 ∧ hostWord t 0x44 = 0x00006655#32 ∧
          t.busLog.length = 1) = true := by decide
theorem test_rdburst_failure_keeps_buf :
    nextWith (exec (.rdburst 0x18#7 0x28#8 6#8) ((idleBlock [.noAck]).putBuf 1 0x99#8)) (fun t =>
      t.cmdResult = .noAck ∧ hostWord t 0x40 = 0x00009900#32) = true := by decide

/-- V8, third row: 0x18 and 0x68 acknowledge, 0x50 has a line-level fault. -/
def scanScript : List BusAnswer :=
  List.replicate 0x18 .noAck ++ served [] :: List.replicate (0x50 - 0x19) .noAck ++ .busError ::
    List.replicate (0x68 - 0x51) .noAck ++ served [] :: List.replicate (0x7F - 0x68) .noAck

theorem test_scan :
    nextWith (exec .scan (idleBlock scanScript)) (fun t =>
      t.cmdResult = .busError ∧ hostWord t 0x20 = 0x01000000#32 ∧ hostWord t 0x24 = 0#32 ∧ hostWord t 0x28 = 0#32 ∧
        hostWord t 0x2C = 0x00000100#32 ∧ t.busLog.length = 128) = true := by decide +kernel

/-- V9, second row. -/
theorem test_config_writes_one :
    nextWith (exec .config (idleBlock [served [0x33#8], served [0x07#8], served [0x80#8], served []])) (fun t =>
      t.cmdResult = .success ∧ t.ident = 0x33#8 ∧ t.cfgWrote = 0b01#2 ∧
        t.busLog.map BusEntry.txn = [.read 0x18#7 0x0F#8 1, .read 0x18#7 0x20#8 1, .read 0x18#7 0x23#8 1,
          .write 0x18#7 0x20#8 0x57#8]) = true := by decide
/-- V9, sixth row. -/
theorem test_config_first_failure :
    nextWith (exec .config (idleBlock [served [0x33#8], served [0x07#8], served [0x00#8], .noAck, served []])) (fun t =>
      t.cmdResult = .noAck ∧ t.ident = 0x33#8 ∧ t.cfgWrote = 0b10#2 ∧ t.busLog.length = 5) = true := by decide

/-! ## LDBUF, CONVERT, EMIT, START and the conversion (V3 to V6) -/

theorem test_ldbuf_last :
    nextWith (exec (.ldbuf 31#8 0xFF#8) (idleBlock [])) (fun t =>
      t.cmdResult = .success ∧ hostWord t 0x5C = 0xFF000000#32 ∧ hostWord t 0x40 = 0#32) = true := by decide
theorem test_convert_reset :
    nextWith (exec .convert (idleBlock [])) (fun t =>
      t.cmdResult = .success ∧ t.frame = [0xA0#8, 0, 0, 0, 0, 0, 0, 0xC0#8] ∧ t.out = []) = true := by decide
theorem test_emit_reset :
    nextWith (exec .emit (idleBlock [])) (fun t =>
      t.cmdResult = .success ∧ t.out = [0xA0#8, 0, 0, 0, 0, 0, 0, 0xC0#8] ∧ t.frameCount = 1#32) = true := by decide
theorem test_emit_busy :
    nextWith (exec .emit (runningBlock [] .idle)) (fun t => t.cmdResult = .busy ∧ t.out = []) = true := by decide
theorem test_start :
    nextWith (exec .start (idleBlock [])) (fun t =>
      t.run = true ∧ t.ready = false ∧ t.cmdResult = .success ∧ hostWord t 0x0C = 0x01#32) = true := by decide

/-- E1, as 90_conflicts C1 corrects it. -/
theorem test_pack_count :
    pack (Config.informative .count) #v[0x00#8, 0x40#8, 0x00#8, 0x20#8, 0x00#8, 0x10#8] =
      [0xA0#8, 0x00#8, 0x04#8, 0x00#8, 0x02#8, 0x00#8, 0x01#8, 0xC0#8] := by decide
/-- V5, third row: negative values and the top of the range. -/
theorem test_pack_physical :
    pack (Config.informative .physical) #v[0xC0#8, 0xFF#8, 0x40#8, 0x00#8, 0xFF#8, 0x7F#8] =
      [0xA0#8, 0xB2#8, 0xFF#8, 0xFF#8, 0xFF#8, 0x4E#8, 0x00#8, 0x00#8, 0x00#8, 0xD1#8, 0x9C#8, 0x00#8, 0x00#8,
        0xC0#8] := by decide
/-- V3: truncation toward zero, and the most negative word. -/
theorem test_phys_truncates :
    physOf (decodeAxis 4 0xFFFF#16) = -19 ∧ physOf (decodeAxis 4 0x8000#16) = -40165 ∧
      countOf (decodeAxis 6 0x8001#16) = -2048 ∧ countOf (decodeAxis 6 0x003F#16) = 0 := by decide
/-- V4. -/
theorem test_phys_float :
    physValue (.float .double) 750 = 14708 ∧ physValue (.float .double) 250 = 4903 ∧
      physValue (.float .doubleToSingle) 250 = 4902 ∧ physValue (.float .doubleToSingle) (-2000) = -39223 ∧
      physValue .exact (-750) = -14709 := by decide
/-- V2. -/
theorem test_status_bits :
    isNewDataAvailable 0x88#8 = true ∧ isDataOverrun 0x88#8 = true ∧ isNewDataAvailable 0xF7#8 = false ∧
      isDataOverrun 0x7F#8 = false := by decide

/-! ## The tick, the sequencer and the host map (V10, V11) -/

theorem test_tick :
    nextWith (step (block [] [.tick] false false .idle)) (fun t =>
      t.ready = true ∧ t.run = false ∧ hostWord t 0x0C = 0x06#32) = true := by decide
theorem test_seq_arm :
    nextWith (step (runningBlock [] .idle)) (fun t =>
      t.phase = .reading ∧ t.ready = true ∧ hostWord t 0x0C = 0x0B#32) = true := by decide
theorem test_seq_status_no_data :
    nextWith (step (runningBlock [served [0x80#8]] .reading)) (fun t =>
      t.phase = .idle ∧ t.ready = false ∧ t.lastStatus = 0x80#8 ∧ t.out = []) = true := by decide
theorem test_seq_status_failure_keeps_ready :
    nextWith (step (runningBlock [.noAck] .reading)) (fun t =>
      t.phase = .idle ∧ t.ready = true ∧ t.seqResult = .noAck ∧ t.errCount = 1#32 ∧ t.lastStatus = 0#8) = true := by
  decide
theorem test_seq_emit :
    nextWith (step (runningBlock [served [0x00#8, 0x40#8, 0x00#8, 0x20#8, 0x00#8, 0x10#8]] .emitting)) (fun t =>
      t.phase = .idle ∧ t.ready = false ∧ t.out = [0xA0#8, 0x00#8, 0x04#8, 0x00#8, 0x02#8, 0x00#8, 0x01#8, 0xC0#8] ∧
        t.frameCount = 1#32 ∧ t.busLog.length = 1) = true := by decide
theorem test_host_map :
    hostWord (idleBlock []) 0x60 = 0x000000A0#32 ∧ hostWord (idleBlock []) 0x64 = 0xC0000000#32 ∧
      hostWord (idleBlock []) 0x68 = 0#32 ∧ hostWord (idleBlock []) 0x1C = 0#32 ∧
      hostWord (State.resetIn (Config.informative .physical)) 0x6C = 0x0000C000#32 ∧
      hostWord (State.resetIn (Config.informative .physical)) 0x0C = 0x10#32 := by decide
/-- V11, the DIAG and RESULT rows. -/
theorem test_host_map_diag :
    hostWord ((((idleBlock []).setIdent 0x33#8).setCfgWrote 0b01#2).setLastStatus 0x08#8) 0x18 = 0x00013308#32 ∧
      hostWord (((idleBlock []).setCmdResult .illegalCommand).setSeqResult .busError) 0x04 = 0x00000204#32 := by decide

/-! ## Witnesses: states and operands that meet the hypotheses of the statements -/

theorem witness_DecodeOfEncodeIsIdentity :
    (Instr.rdburst 0x7F#7 0xE0#8 32#8).wf = true ∧ (Instr.rdburst 0#7 0xFF#8 1#8).wf = true ∧
      (Instr.ldbuf 31#8 0#8).wf = true ∧ Instr.scan.wf = true := by decide

theorem witness_AcceptedWordIsItsOwnEncoding :
    decode 0x20E01804#32 = .ok (.rdburst 0x18#7 0xE0#8 32#8) := by decide

/-- A word for each of the ten cases; the decode tests have others. -/
theorem witness_AcceptedWordHasReservedBitsClear :
    decode 0x00007F01#32 = .ok (.probe 0x7F#7) ∧ decode 0x00FF7F02#32 = .ok (.rdreg 0x7F#7 0xFF#8) ∧
      decode 0xFFFF7F03#32 = .ok (.wrreg 0x7F#7 0xFF#8 0xFF#8) ∧
      decode 0x20E01804#32 = .ok (.rdburst 0x18#7 0xE0#8 32#8) ∧ decode 0xFF1F0007#32 = .ok (.ldbuf 31#8 0xFF#8) ∧
      decode 0x00000005#32 = .ok .scan ∧ decode 0x00000006#32 = .ok .config ∧ decode 0x00000008#32 = .ok .convert ∧
      decode 0x00000009#32 = .ok .emit ∧ decode 0x0000000A#32 = .ok .start := by decide

theorem witness_OperandsAreUnsignedFields :
    decode 0xFFFF7F03#32 = .ok (.wrreg 0x7F#7 0xFF#8 0xFF#8) ∧
      decode 0x20E01804#32 = .ok (.rdburst 0x18#7 0xE0#8 32#8) ∧ decode 0xFF1F0007#32 = .ok (.ldbuf 31#8 0xFF#8) := by
  decide

theorem witness_OpcodeRowsNeverOverlap :
    (opcodeMap[(⟨0, by decide⟩ : Fin opcodeMap.length)]).accepts 0x00001801#32 = true ∧
      (opcodeMap[(⟨9, by decide⟩ : Fin opcodeMap.length)]).accepts 0x0000000A#32 = true := by decide

theorem witness_ReservedOpIsIllegalCommand :
    (hostBlock 0x00000000#32 true).hostWrites 0x00000000#32 [] ∧ 0x00000000#32 % 256 = 0 ∧
      (hostBlock 0x0000000B#32 false).hostWrites 0x0000000B#32 [] ∧ 0x0B ≤ (0x0000000B#32).toNat % 256 ∧
      (hostBlock 0x123456FF#32 false).hostWrites 0x123456FF#32 [] ∧ 0x0B ≤ (0x123456FF#32).toNat % 256 :=
  ⟨⟨rfl, rfl⟩, by decide, ⟨rfl, rfl⟩, by decide, ⟨rfl, rfl⟩, by decide⟩

theorem witness_OperandRangesDecideLegality :
    (decode (commandWord 0x04#8 0x18#7 0xE0#8 32#8)).toOption.isSome = true ∧
      (decode (commandWord 0x04#8 0x18#7 0xE1#8 32#8)).toOption = none ∧
      (decode (commandWord 0x07#8 0#7 31#8 0#8)).toOption.isSome = true ∧
      (decode (commandWord 0x07#8 0#7 32#8 0#8)).toOption = none := by decide

theorem witness_AssembledLinesDecodeToTheirExpansion :
    (AsmLine.ldraw 1#8 2#8 3#8 4#8 5#8 6#8).assemble (Config.informative .count) =
      some [0x01000007#32, 0x02010007#32, 0x03020007#32, 0x04030007#32, 0x05040007#32, 0x06050007#32] ∧
    (AsmLine.command (.ldbuf 32#8 0#8)).assemble (Config.informative .count) = none := by decide

theorem witness_StepRunsTheDecodedCommand :
    (hostBlock 0x57201803#32 false).hostWrites 0x57201803#32 [] ∧
      decode 0x57201803#32 = .ok (.wrreg 0x18#7 0x20#8 0x57#8) := ⟨⟨rfl, rfl⟩, by decide⟩

theorem witness_RefusedCommandsChangeOnlyCmdRegisters :
    ((hostBlock 0x00009801#32 true).hostWrites 0x00009801#32 [] ∧ decode 0x00009801#32 = .error .reservedBits) ∧
      ((hostBlock 0x0000000A#32 true).hostWrites 0x0000000A#32 [] ∧ decode 0x0000000A#32 = .ok .start ∧
        (hostBlock 0x0000000A#32 true).run = true) :=
  ⟨⟨⟨rfl, rfl⟩, by decide⟩, ⟨rfl, rfl⟩, by decide, rfl⟩

theorem witness_EveryCommandIsTurnedAwayAlike :
    (Instr.ldbuf 32#8 0#8).wf = false ∧ (Instr.rdburst 0#7 0#8 0#8).wf = false ∧ Instr.emit.wf = true ∧
      (runningBlock [] .idle).run = true := by decide

theorem witness_ProbeRecordsTheAnswer :
    (0x00007F01#32 &&& 0xFFFF80FF#32 = 0x00000001#32) ∧ (idleBlock []).run = false ∧
      resultOf ((idleBlock [served []]).nextAnswer (.probe 0x7F#7)) = some .success ∧
      resultOf ((idleBlock [.noAck]).nextAnswer (.probe 0x00#7)) = some .noAck ∧
      resultOf ((idleBlock [.busError]).nextAnswer (.probe 0x18#7)) = some .busError ∧
      (idleBlock [.silent]).nextAnswer (.probe 0x18#7) = .silent := by decide

theorem witness_RdregLoadsRdataOnSuccess :
    (0x00FF7F02#32 &&& 0xFF0080FF#32 = 0x00000002#32) ∧ (idleBlock []).run = false ∧
      (idleBlock [served [0x33#8]]).nextAnswer (.read 0x7F#7 0xFF#8 1) = served [0x33#8] ∧
      resultOf ((idleBlock [.noAck]).nextAnswer (.read 0x18#7 0x00#8 1)) = some .noAck ∧
      resultOf ((idleBlock [.busError]).nextAnswer (.read 0x18#7 0x00#8 1)) = some .busError ∧
      (idleBlock [.silent]).nextAnswer (.read 0x18#7 0x00#8 1) = .silent := by decide

theorem witness_WrregReportsTheWrite :
    (0xFFFF7F03#32 &&& 0x000080FF#32 = 0x00000003#32) ∧ (idleBlock []).run = false ∧
      resultOf ((idleBlock [served []]).nextAnswer (.write 0x7F#7 0xFF#8 0xFF#8)) = some .success ∧
      resultOf ((idleBlock [.noAck]).nextAnswer (.write 0x18#7 0x00#8 0#8)) = some .noAck ∧
      resultOf ((idleBlock [.busError]).nextAnswer (.write 0x18#7 0x00#8 0#8)) = some .busError ∧
      (idleBlock [.silent]).nextAnswer (.write 0x18#7 0x00#8 0#8) = .silent := by decide

theorem witness_RdburstFillsBufInOneTransaction :
    (0x20E01804#32 &&& 0x000080FF#32 = 0x00000004#32 ∧ (fieldData 0x20E01804#32).toNat = 32 ∧
      (fieldReg 0x20E01804#32).toNat + 32 = 256 ∧ (fieldData 0x01FF1804#32).toNat = 1) ∧
      ((0#8).toNat = 0 ∧ 32 < (33#8).toNat ∧ 256 < (0xE1#8).toNat + (32#8).toNat) ∧
      (Instr.rdburst 0x18#7 0xE0#8 32#8).wf = true ∧ (Instr.rdburst 0x18#7 0xFF#8 1#8).wf = true ∧
      (idleBlock []).run = false ∧
      (idleBlock [served [0x5A#8]]).nextAnswer (.read 0x18#7 0xE0#8 32) = served [0x5A#8] ∧
      resultOf ((idleBlock [.noAck]).nextAnswer (.read 0x18#7 0xE0#8 32)) = some .noAck ∧
      resultOf ((idleBlock [.busError]).nextAnswer (.read 0x18#7 0xFF#8 1)) = some .busError ∧
      (idleBlock [.silent]).nextAnswer (.read 0x18#7 0xFF#8 1) = .silent := by decide

theorem witness_ScanProbesEveryAddressInOrder :
    (idleBlock scanScript).run = false ∧
      ∀ a < 128, resultOf ((idleBlock scanScript).answerAt a (.probe (BitVec.ofNat 7 a))) =
        some (if a = 0x18 ∨ a = 0x68 then .success else if a = 0x50 then .busError else .noAck) := by decide +kernel

/-- The first address and the last one unanswered; also for the unanswered case of ScanProbesEveryAddressInOrder. -/
theorem witness_ScanStopsAtAnUnansweredProbe :
    (idleBlock [.silent]).run = false ∧ (idleBlock [.silent]).answerAt 0 (.probe 0#7) = .silent ∧
      (∀ a < 127, resultOf ((idleBlock (List.replicate 127 .noAck ++ [.silent])).answerAt a
        (.probe (BitVec.ofNat 7 a))) = some .noAck) ∧
      (idleBlock (List.replicate 127 .noAck ++ [.silent])).answerAt 127 (.probe 127#7) = .silent := by decide +kernel

/-- Both writes needed, with a failed control read; no write needed; and the first transaction unanswered (the four others
as the first unanswered one: witness_UnansweredConfigNeverCompletes). -/
theorem witness_ConfigWritesWhatDiffers :
    let s := idleBlock [served [0x33#8], .noAck, served [0x00#8], .busError, served []]
    let b := s.build
    s.run = false ∧ resultOf (s.answerAt 0 (.read b.devAddr b.regIdent 1)) = some .success ∧
      resultOf (s.answerAt 1 (.read b.devAddr b.regCtrlA 1)) = some .noAck ∧
      differsFrom b.ctrlRefA (s.answerAt 1 (.read b.devAddr b.regCtrlA 1)) = true ∧
      resultOf (s.answerAt 2 (.read b.devAddr b.regCtrlB 1)) = some .success ∧
      differsFrom b.ctrlRefB (s.answerAt 2 (.read b.devAddr b.regCtrlB 1)) = true ∧
      resultOf (s.answerAt 3 (.write b.devAddr b.regCtrlA b.ctrlRefA)) = some .busError ∧
      resultOf (s.answerAt 4 (.write b.devAddr b.regCtrlB b.ctrlRefB)) = some .success ∧
      differsFrom b.ctrlRefA ((idleBlock [served [0x33#8], served [0x57#8]]).answerAt 1
        (.read b.devAddr b.regCtrlA 1)) = false ∧
      (idleBlock [.silent]).answerAt 0 (.read b.devAddr b.regIdent 1) = .silent := by decide

/-- Each of the five transactions as the first unanswered one, and of the last also where no write of control A comes
before it. -/
theorem witness_UnansweredConfigNeverCompletes :
    (idleBlock [.silent]).run = false ∧ (idleBlock [.silent]).hung = none ∧
      nextWith (exec .config (idleBlock [.silent])) (fun t =>
        t.hung = some ⟨.host, .read 0x18#7 0x0F#8 1⟩ ∧ t.ident = 0#8 ∧ t.busLog = []) = true ∧
      nextWith (exec .config (idleBlock [served [0x33#8], .silent])) (fun t =>
        t.hung = some ⟨.host, .read 0x18#7 0x20#8 1⟩ ∧ t.ident = 0x33#8 ∧ t.cmdResult = .success) = true ∧
      nextWith (exec .config (idleBlock [.noAck, .busError, .silent])) (fun t =>
        t.hung = some ⟨.host, .read 0x18#7 0x23#8 1⟩ ∧ t.ident = 0#8 ∧ t.busLog.length = 2) = true ∧
      nextWith (exec .config (idleBlock [.noAck, .noAck, .noAck, .silent])) (fun t =>
        t.hung = some ⟨.host, .write 0x18#7 0x20#8 0x57#8⟩ ∧ t.busLog.length = 3) = true ∧
      nextWith (exec .config (idleBlock [.noAck, .noAck, .noAck, .noAck, .silent])) (fun t =>
        t.hung = some ⟨.host, .write 0x18#7 0x23#8 0x80#8⟩ ∧ t.busLog.length = 4) = true ∧
      nextWith (exec .config (idleBlock [.noAck, served [0x57#8], .noAck, .silent])) (fun t =>
        t.hung = some ⟨.host, .write 0x18#7 0x23#8 0x80#8⟩ ∧ t.busLog.length = 3) = true := by decide

theorem witness_LdbufWritesOneByte :
    (0xFF1F0007#32 &&& 0x0000FFFF#32 = 0x00000007#32 ∧ (fieldReg 0xFF1F0007#32).toNat < 32) ∧
      32 ≤ (32#8).toNat ∧ (0#8).toNat < burstMax ∧ (31#8).toNat < burstMax ∧ (idleBlock []).run = false := by decide

theorem witness_ConvertPacksTheSample : (idleBlock []).run = false := by decide
theorem witness_EmitSendsTheFrame : (idleBlock []).run = false := by decide
theorem witness_StartSetsRun : (idleBlock []).run = false ∧ (runningBlock [] .idle).run = true := by decide

/-- The ends of the range. -/
theorem witness_FloatOrdersDifferOnlyAtMultiplesOf250 :
    (-2048 : Int) ≤ -2048 ∧ (-2048 : Int) ≤ 2047 ∧ (2047 : Int) ≤ 2047 := by decide

theorem witness_FramesHaveTheSpecifiedBytes :
    (Config.informative .count).mode = .count ∧ (Config.informative .physical).mode = .physical := by decide

theorem witness_CountFieldReadsBack : (Config.informative .count).mode = .count := by decide

/-- Both signs of the value, and 0. -/
theorem witness_ExactPhysicalFieldReadsBack :
    (Config.informative .physical).mode = .physical ∧ (Config.informative .physical).physEval = .exact ∧
      0 ≤ decodeAxis 4 0x7FFF#16 ∧ decodeAxis 4 0x8000#16 ≤ 0 ∧ decodeAxis 4 0#16 = 0 := by decide

/-- The first, the middle and the last axis, and the last byte of a field in both modes. -/
theorem witness_AxisLanesAreIndependent :
    let raw : Vector Byte sampleBytes := #v[1#8, 2#8, 3#8, 4#8, 5#8, 6#8]
    let x : Vector Byte sampleBytes := #v[1#8, 2#8, 9#8, 9#8, 9#8, 9#8]
    let y : Vector Byte sampleBytes := #v[9#8, 9#8, 3#8, 4#8, 9#8, 9#8]
    let z : Vector Byte sampleBytes := #v[9#8, 9#8, 9#8, 9#8, 5#8, 6#8]
    (raw[0]? = x[0]? ∧ raw[1]? = x[1]?) ∧ (raw[2]? = y[2]? ∧ raw[3]? = y[3]?) ∧ (raw[4]? = z[4]? ∧ raw[5]? = z[5]?) ∧
      1 < (flen .count - 2) / 3 ∧ 3 < (flen .physical - 2) / 3 := by decide

theorem witness_TickOnlySetsReady : (block [] [.tick] true false .emitting).turns = [.tick] := rfl

/-- The sequencer with READY = 1 at Idle, its turn listed, or no turn listed. -/
theorem witness_ReadySequencerStartsReading :
    (runningBlock [] .idle).seqNext [] ∧ (block [] [.seq, .tick] true true .idle).seqNext [.tick] ∧
      (runningBlock [] .idle).stuckAgent .seq = false ∧ (runningBlock [] .idle).run = true ∧
      (runningBlock [] .idle).phase = .idle ∧ (runningBlock [] .idle).ready = true :=
  ⟨.inr ⟨rfl, rfl⟩, .inl rfl, rfl, rfl, rfl, rfl⟩

theorem witness_StatusReadDecidesTheCycle :
    (runningBlock [] .reading).seqNext [] ∧ (runningBlock [] .reading).stuckAgent .seq = false ∧
      (runningBlock [] .reading).run = true ∧ (runningBlock [] .reading).phase = .reading ∧
      (runningBlock [served [0x08#8]] .reading).nextAnswer (.read 0x18#7 0x27#8 1) = served [0x08#8] ∧
      (0x08#8).getLsbD 3 = true ∧
      (runningBlock [served [0xF7#8]] .reading).nextAnswer (.read 0x18#7 0x27#8 1) = served [0xF7#8] ∧
      (0xF7#8).getLsbD 3 = false ∧
      resultOf ((runningBlock [.busError] .reading).nextAnswer (.read 0x18#7 0x27#8 1)) = some .busError ∧
      (runningBlock [.silent] .reading).nextAnswer (.read 0x18#7 0x27#8 1) = .silent :=
  ⟨.inr ⟨rfl, rfl⟩, rfl, rfl, rfl, rfl, rfl, rfl, rfl, rfl, rfl⟩

theorem witness_BurstIsFramedAndEmitted :
    (runningBlock [] .emitting).seqNext [] ∧ (runningBlock [] .emitting).stuckAgent .seq = false ∧
      (runningBlock [] .emitting).run = true ∧ (runningBlock [] .emitting).phase = .emitting ∧
      (runningBlock [served [1#8]] .emitting).nextAnswer (.read 0x18#7 0x28#8 6) = served [1#8] ∧
      resultOf ((runningBlock [.noAck] .emitting).nextAnswer (.read 0x18#7 0x28#8 6)) = some .noAck ∧
      (runningBlock [.silent] .emitting).nextAnswer (.read 0x18#7 0x28#8 6) = .silent :=
  ⟨.inr ⟨rfl, rfl⟩, rfl, rfl, rfl, rfl, rfl, rfl⟩

theorem witness_SequencerHoldsWithNothingToDo :
    ((block [] [] false true .reading).seqNext [] ∧ (block [] [] false true .reading).run = false) ∧
      ((block [] [.seq] true false .idle).seqNext [] ∧ (block [] [.seq] true false .idle).run = true ∧
        (block [] [.seq] true false .idle).phase = .idle ∧ (block [] [.seq] true false .idle).ready = false) :=
  ⟨⟨.inr ⟨rfl, rfl⟩, rfl⟩, .inl rfl, rfl, rfl, rfl⟩

/-- A stuck host with a host read waiting, a stuck sequencer with its turn next, and a tick while it is stuck. -/
theorem witness_StuckAgentHasNoFurtherStep :
    let hostStuck := State.hangOn .host (.probe 0x18#7) (block [] [.host (.read 0 4)] false false .idle)
    let seqStuck := State.hangOn .seq (.probe 0x18#7) (block [] [.seq] true true .reading)
    let ticking := State.hangOn .seq (.probe 0x18#7) (block [] [.tick] true true .reading)
    (hostStuck.hung = some ⟨.host, .probe 0x18#7⟩ ∧ hostStuck.turns = [.host (.read 0 4)]) ∧
      (seqStuck.hung = some ⟨.seq, .probe 0x18#7⟩ ∧ seqStuck.seqNext []) ∧ ticking.turns = [.tick] :=
  ⟨⟨rfl, rfl⟩, ⟨rfl, .inl rfl⟩, rfl⟩

theorem witness_SuccessfulCycleEmitsOneFrame :
    let s := block [served [0x08#8], served [1#8]] [.seq, .seq, .seq] true true .idle
    s.turns = [.seq, .seq, .seq] ∧ s.stuckAgent .seq = false ∧ s.run = true ∧ s.phase = .idle ∧ s.ready = true ∧
      s.answers = [served [0x08#8], served [1#8]] ∧
      (fillBuf (Vector.replicate burstMax 0#8) [0x08#8])[0].getLsbD 3 = true := by decide

theorem witness_CycleWithoutNewDataEmitsNothing :
    let s := block [served [0xF7#8]] [.seq, .seq] true true .idle
    s.turns = [.seq, .seq] ∧ s.stuckAgent .seq = false ∧ s.run = true ∧ s.phase = .idle ∧ s.ready = true ∧
      s.answers = [served [0xF7#8]] ∧ (fillBuf (Vector.replicate burstMax 0#8) [0xF7#8])[0].getLsbD 3 = false := by
  decide

theorem witness_PersistentFailureOnlyCountsErrors :
    let s := block [.noAck, .busError] [.seq, .seq, .seq, .seq, .tick] true true .idle
    s.turns = List.replicate (2 * 2) .seq ++ [.tick] ∧ s.stuckAgent .seq = false ∧ s.run = true ∧ s.phase = .idle ∧
      s.ready = true ∧ s.answers = [.noAck, .busError] ++ [] ∧
      ∀ a ∈ [BusAnswer.noAck, BusAnswer.busError], a = .noAck ∨ a = .busError := by decide

/-- No transaction, an answered burst, an unanswered status read. -/
theorem witness_SequencerIssuesAtMostOneRead :
    (runningBlock [] .idle).seqNext [] ∧ (runningBlock [.noAck] .emitting).seqNext [] ∧
      nextWith (step (runningBlock [] .idle)) (fun t => t.asked = 0 ∧ t.busLog = []) = true ∧
      nextWith (step (runningBlock [.noAck] .emitting)) (fun t =>
        t.asked = 1 ∧ t.busLog = [⟨.read 0x18#7 0x28#8 6, .noAck, none⟩]) = true ∧
      nextWith (step (runningBlock [.silent] .reading)) (fun t =>
        t.asked = 1 ∧ t.busLog = [] ∧ t.hung = some ⟨.seq, .read 0x18#7 0x27#8 1⟩) = true :=
  ⟨.inr ⟨rfl, rfl⟩, .inr ⟨rfl, rfl⟩, by decide, by decide, by decide⟩

/-- An agent leaves Idle with READY = 1, and goes on. -/
theorem witness_BusyPhaseKeepsReady :
    (runningBlock [served [0x08#8]] .reading).ready = true ∧
      nextWith (step (runningBlock [served [0x08#8]] .reading)) (fun t => t.phase = .emitting) = true := by decide

theorem witness_FrameSentinelsAreNeverOverwritten :
    frameShape .count (idleBlock []).frame ∧
      nextWith (step (runningBlock [served []] .emitting)) (fun t => t.frame.length = 8) = true :=
  ⟨⟨rfl, List.replicate 6 0#8, rfl⟩, by decide⟩

/-- Frames as reset leaves them, and a step that emits one. -/
theorem witness_OutStaysAConcatenationOfWholeFrames :
    frameShape .count (runningBlock [] .emitting).frame ∧ wholeFrames .count (runningBlock [] .emitting).out 0 ∧
      (runningBlock [] .emitting).frameCount = BitVec.ofNat 32 0 ∧
      nextWith (step (runningBlock [served []] .emitting)) (fun t => t.frameCount = 1#32) = true :=
  ⟨⟨rfl, List.replicate 6 0#8, rfl⟩, ⟨[], rfl, rfl, fun _ h => nomatch h⟩, rfl, by decide⟩

/-- A state with a cycle under way that has the invariant, and a step from it. -/
theorem witness_EveryStepKeepsTheInvariant :
    (runningBlock [served []] .emitting).Inv ∧
      nextWith (step (runningBlock [served []] .emitting)) (fun t => t.phase = .idle) = true := by
  refine ⟨⟨⟨rfl, List.replicate 6 0#8, rfl⟩, fun _ => ⟨rfl, rfl⟩, by decide, ?_, rfl, ?_,
    0, ⟨[], rfl, rfl, fun _ h => nomatch h⟩, rfl⟩, by decide⟩
  · intro h e
    exact nomatch e
  · intro e h
    exact nomatch h

/-- A state with the unreachable code in both result registers keeps it through a tick. -/
theorem witness_TimeoutIsNeverWritten :
    nextWith (step (((block [] [.tick] true false .idle).setCmdResult .timeout).setSeqResult .timeout)) (fun t =>
      t.cmdResult = .timeout ∧ t.seqResult = .timeout) = true := by decide

theorem witness_BuildParametersNeverChange :
    nextWith (step (runningBlock [] .idle)) (fun t => t.build = Config.informative .count) = true ∧
      nextWith (exec .start (idleBlock [])) (fun t => t.build = Config.informative .count) = true := by decide

theorem witness_NoStepClearsRun :
    (runningBlock [] .idle).run = true ∧ nextWith (step (runningBlock [] .idle)) (fun t => t.run) = true := by decide

/-- READY up in a tick; READY down at a cycle's end, of both kinds. -/
theorem witness_OnlyTickSetsAndOnlySequencerClearsReady :
    nextWith (step (block [] [.tick] true false .idle)) (fun t => t.ready) = true ∧
      nextWith (step (runningBlock [served []] .emitting)) (fun t => !t.ready) = true ∧
      nextWith (step (runningBlock [served [0xF7#8]] .reading)) (fun t => !t.ready) = true := by decide

theorem witness_FailuresAreSilentAtTheOutput :
    nextWith (step (runningBlock [.busError] .emitting)) (fun t =>
      t.errCount ≠ (runningBlock [.busError] .emitting).errCount) = true := by decide

theorem witness_LogsOnlyGrowByLegalEntries :
    nextWith (step (runningBlock [served [0x08#8]] .reading)) (fun t => t.busLog.length = 1) = true := by decide

/-- The last words and bytes of the three arrays. -/
theorem witness_HostRegisterMapWords :
    (3 < 4 ∧ 31 < 32 ∧ 7 < 8) ∧ 0x1C ∉ [0x00, 0x04, 0x08, 0x0C, 0x10, 0x14, 0x18] ∧
      hostWord (idleBlock []) 0x30 = 0#32 ∧ hostWord (idleBlock []) 0x70 = 0#32 := by decide

theorem witness_SchedStateIsTheViewOfPhaseAndReady :
    (block [] [] false true .reading).phase = .reading ∧ (block [] [] true true .emitting).phase = .emitting ∧
      (block [] [] false true .idle).ready = true ∧ (block [] [] false false .idle).ready = false := by decide

theorem witness_HostAccessesFollowTheMap :
    let s := fun a => block [] [.host a] true true .reading
    (s (.read 0x6C 4)).stuckAgent .host = false ∧ (s (.read 0x6C 4)).turns = [.host (.read 0x6C 4)] ∧
      (s (.write 0x04 4 1#32)).turns = [.host (.write 0x04 4 1#32)] ∧
      (s (.read 0x04 2)).turns = [.host (.read 0x04 2)] ∧ (s (.write 0x02 4 1#32)).turns = [.host (.write 0x02 4 1#32)] := by
  decide

theorem witness_MidRunResetIsRefused : (block [] [.reset] true true .reading).turns = [.reset] := rfl

end Sys2Proof.Tests
end

/-! ## What a step can do

The layer that the statements about every step stand on. A host command is a sequence of single register writes
(`HostWrite`), perhaps cut short by a transaction that is never answered; the sequencer's turn is one of the transitions
of 42_sampling_scheduler R223 to R227 (`SeqStep`); a step is one of these or the tick. A property is kept by every step
as soon as these pieces keep it (`StepClosed.step`). -/

/-! ### Bus transactions -/

namespace Sys2Proof

/-- A read asks for at most BURST_MAX bytes (30_encoding R106). -/
inductive BusTxn.Fits : BusTxn → Prop where
  | probe (dev : DevAddr) : Fits (.probe dev)
  | read (dev : DevAddr) (reg : RegAddr) {n : Nat} : n ≤ burstMax → Fits (.read dev reg n)
  | write (dev : DevAddr) (reg : RegAddr) (b : Byte) : Fits (.write dev reg b)

theorem BusTxn.Fits.burst {dev : DevAddr} {reg : RegAddr} {count : BitVec 8}
    (h : (Instr.rdburst dev reg count).wf = true) : (BusTxn.read dev reg count.toNat).Fits := by
  simp only [Instr.wf, Bool.and_eq_true, decide_eq_true_eq] at h
  obtain ⟨⟨-, hmax⟩, -⟩ := h
  exact .read dev reg hmax

end Sys2Proof

namespace Sys2Proof.Machine

theorem BusEntry.legal_served {t : BusTxn} (ht : t.Fits) (d : Vector Byte burstMax) :
    BusEntry.legal ⟨t, .success, logData t d⟩ := by
  refine ⟨by simp, ?_⟩
  cases ht with
  | read dev reg hn => exact ⟨hn, _, rfl, by simpa [bytesOf] using hn⟩
  | probe | write => rfl

theorem BusEntry.legal_failed (t : BusTxn) {r : TxResult} (hs : r ≠ .success) (ht : r ≠ .timeout) :
    BusEntry.legal ⟨t, r, none⟩ := by
  refine ⟨ht, ?_⟩
  cases t with
  | probe | write => rfl
  | read =>
    cases r with
    | success => exact absurd rfl hs
    | _ => rfl

/-- A transaction completes with one legal entry of BUS_LOG, whose result is the reply's, or its agent is stuck. -/
theorem transact_logs_or_hangs (who : Agent) {t : BusTxn} (ht : t.Fits) (s : State) :
    (∃ r e, e.txn = t ∧ e.legal ∧ r.res = e.res ∧ transact who t s = .done r (s.logTxn e)) ∨
    transact who t s = .stuck (s.hangOn who t) := by
  obtain ⟨d, -, h⟩ | ⟨-, h⟩ | ⟨-, h⟩ | ⟨-, h⟩ := transact_cases who t s
  · exact .inl ⟨_, _, rfl, BusEntry.legal_served ht d, rfl, h⟩
  · exact .inl ⟨_, _, rfl, BusEntry.legal_failed t (by simp) (by simp), rfl, h⟩
  · exact .inl ⟨_, _, rfl, BusEntry.legal_failed t (by simp) (by simp), rfl, h⟩
  · exact .inr h

theorem CmdResult.ofTx_ne_timeout {r : TxResult} (h : r ≠ .timeout) : CmdResult.ofTx r ≠ .timeout := by
  cases r <;> simp_all [CmdResult.ofTx]

theorem firstFailure_ne_timeout {rs : List TxResult} (h : .timeout ∉ rs) : firstFailure rs ≠ .timeout := by
  unfold firstFailure
  cases hf : rs.find? (· ≠ .success) with
  | none => simp
  | some r => exact fun hr => h (hr ▸ List.mem_of_find?_eq_some hf)

theorem Progress.andThen_assoc {α β γ : Type} (p : Progress α) (k : α → State → Progress β)
    (l : β → State → Progress γ) : (p.andThen k).andThen l = p.andThen fun a s => (k a s).andThen l := by
  cases p <;> rfl

/-! ### The host's commands -/

/-- One register write of a host access or command. RUN = 0 where the write belongs to a command that RUN = 1 turns away
(30_encoding R112). -/
inductive HostWrite : State → State → Prop where
  | cmdLast (s : State) (w : Word) : HostWrite s (s.setCmdLast w)
  | noteRead (s : State) (offset : Nat) (w : Word) : HostWrite s (s.noteRead offset w)
  | cmdResult (s : State) (r : CmdResult) : r ≠ .timeout → HostWrite s (s.setCmdResult r)
  | rdata (s : State) (b : Byte) : HostWrite s (s.setRdata b)
  | ident (s : State) (b : Byte) : HostWrite s (s.setIdent b)
  | cfgWrote (s : State) (v : BitVec 2) : HostWrite s (s.setCfgWrote v)
  | present (s : State) (a : Nat) (b : Bool) : HostWrite s (s.setPresent a b)
  | loadBuf (s : State) (d : List Byte) : HostWrite s (s.loadBuf d)
  | putBuf (s : State) (i : Nat) (b : Byte) : HostWrite s (s.putBuf i b)
  | convert (s : State) : HostWrite s s.convert
  | emitFrame (s : State) : HostWrite s s.emitFrame
  | startRun (s : State) : s.run = false → HostWrite s s.startRun
  | logTxn (s : State) (e : BusEntry) : s.run = false → e.legal → HostWrite s (s.logTxn e)

/-- Every register write of the host keeps `P`. -/
def WriteClosed (P : State → Prop) : Prop := ∀ ⦃u v : State⦄, HostWrite u v → P u → P v

/-- A command part-way: so far only writes that keep `P`, and RUN still 0; or the host stuck right after such writes. -/
def Progress.Within {α : Type} (P : State → Prop) : Progress α → Prop
  | .done _ t => P t ∧ t.run = false
  | .stuck t => ∃ u txn, P u ∧ u.run = false ∧ t = u.hangOn .host txn

/-- What a whole command leaves: a state with `P`, or the host stuck in a transaction issued in one, with RUN = 0. -/
def HostEnds (P : State → Prop) (t : State) : Prop :=
  P t ∨ ∃ u txn, P u ∧ u.run = false ∧ t = u.hangOn .host txn

section
variable {P : State → Prop}

theorem Progress.Within.andThen {α β : Type} {p : Progress α} {k : α → State → Progress β} (hp : p.Within P)
    (hk : ∀ a u, P u → u.run = false → (k a u).Within P) : (p.andThen k).Within P := by
  cases p with
  | done a u => exact hk a u hp.1 hp.2
  | stuck u => exact hp

theorem Progress.Within.state {α : Type} {p : Progress α} (hp : p.Within P) : HostEnds P p.state := by
  cases p with
  | done a u => exact .inl hp.1
  | stuck u => exact .inr hp

theorem Progress.within_done {α : Type} {a : α} {t : State} (ht : P t) (hr : t.run = false) :
    (Progress.done a t).Within P := ⟨ht, hr⟩

variable (hP : WriteClosed P) {s t : State}
include hP

/-- A host transaction that goes on: whatever the answer, `k` continues from a state with `P` and RUN = 0. -/
theorem within_transact {α : Type} {txn : BusTxn} (ht : txn.Fits) (hs : P s) (hr : s.run = false)
    {k : Reply → State → Progress α}
    (hk : ∀ r u, r.res ≠ .timeout → P u → u.run = false → (k r u).Within P) :
    ((transact .host txn s).andThen k).Within P := by
  obtain ⟨r, e, -, he, hres, h⟩ | h := transact_logs_or_hangs .host ht s
  · rw [h]
    exact hk r _ (hres ▸ he.1) (hP (.logTxn s e hr he) hs) hr
  · rw [h]
    exact ⟨s, txn, hs, hr, rfl⟩

theorem within_setCmdResult {r : CmdResult} (hne : r ≠ .timeout) (hs : P s) (hr : s.run = false) :
    (Progress.done () (s.setCmdResult r)).Within P :=
  Progress.within_done (hP (.cmdResult s r hne) hs) hr

theorem within_probeAddress {α : Type} (dev : DevAddr) (hs : P s) (hr : s.run = false)
    {k : TxResult → State → Progress α} (hk : ∀ r u, r ≠ .timeout → P u → u.run = false → (k r u).Within P) :
    ((probeAddress dev s).andThen k).Within P := by
  rw [probeAddress, Progress.andThen_assoc]
  exact within_transact hP (.probe dev) hs hr fun r u hne hu hru => hk _ _ hne (hP (.present u _ _) hu) hru

theorem within_scanFrom (left a : Nat) (err : Bool) (hs : P s) (hr : s.run = false) :
    (scanFrom left a err s).Within P := by
  induction left generalizing a err s with
  | zero => exact Progress.within_done hs hr
  | succ left ih => exact within_probeAddress hP _ hs hr fun r u _ hu hru => ih _ _ hu hru

/-- CONFIG's write-if-different, with what follows it: the write's result, if there is one, is not Timeout. -/
theorem within_writeControl {α : Type} (b : Build) (reg : RegAddr) (ref : Byte) (seen : Reply) (hs : P s)
    (hr : s.run = false) {k : Option TxResult → State → Progress α}
    (hk : ∀ w u, .timeout ∉ w.toList → P u → u.run = false → (k w u).Within P) :
    ((writeControl b reg ref seen s).andThen k).Within P := by
  unfold writeControl
  split
  · rw [Progress.andThen_assoc]
    exact within_transact hP (.write _ reg ref) hs hr fun r u hne hu hru => hk _ _ (by simpa using hne.symm) hu hru
  · exact hk none s (by simp) hs hr

theorem within_configSteps (hs : P s) (hr : s.run = false) : (configSteps s).Within P := by
  unfold configSteps
  refine within_transact hP (.read _ _ (by decide)) hs hr fun ri u hri hu hru => ?_
  have hident : P (if ri.res = .success then u.setIdent ri.byte else u) := by
    split
    · exact hP (.ident u _) hu
    · exact hu
  refine within_transact hP (.read _ _ (by decide)) hident (by split <;> exact hru) fun ra u hra hu hru => ?_
  refine within_transact hP (.read _ _ (by decide)) hu hru fun rb u hrb hu hru => ?_
  refine within_writeControl hP _ _ _ _ hu hru fun wa u hwa hu hru => ?_
  refine within_writeControl hP _ _ _ _ hu hru fun wb u hwb hu hru => ?_
  have hnone : .timeout ∉ [ri.res, ra.res, rb.res] ++ wa.toList ++ wb.toList := by
    simp only [List.mem_append, List.mem_cons, List.not_mem_nil]
    grind
  exact within_setCmdResult hP (CmdResult.ofTx_ne_timeout (firstFailure_ne_timeout hnone)) (hP (.cfgWrote u _) hu) hru

/-- The issue step ends a command as its body does, run only with legal operands and RUN = 0; a refusal writes only
CMD_RESULT. -/
theorem hostEnds_of_issue {i : Instr} {body : State → State} (hs : P s)
    (h : issue i s body = .next t) (hbody : i.wf = true → s.run = false → HostEnds P (body s)) : HostEnds P t := by
  obtain ⟨-, hi⟩ | ⟨-, -, hi⟩ | ⟨hw, hr, hi⟩ := issue_cases i s body
  all_goals
    rw [hi] at h
    cases h
  · exact .inl (hP (.cmdResult s _ (by simp)) hs)
  · exact .inl (hP (.cmdResult s _ (by simp)) hs)
  · exact hbody hw hr

/-- What each of the ten commands leaves. -/
theorem hostEnds_of_exec (i : Instr) (hs : P s) (h : exec i s = .next t) : HostEnds P t := by
  have succeeds (u : State) (hu : P u) : HostEnds P (u.setCmdResult .success) :=
    .inl (hP (.cmdResult u _ (by simp)) hu)
  cases i with
  | probe dev =>
    dsimp only [exec, execProbe] at h
    refine hostEnds_of_issue hP hs h fun _ hr =>
      (within_probeAddress hP dev hs hr fun r u hne hu hru => ?_).state
    exact within_setCmdResult hP (CmdResult.ofTx_ne_timeout hne) hu hru
  | rdreg dev reg =>
    dsimp only [exec, execRdreg] at h
    refine hostEnds_of_issue hP hs h fun _ hr =>
      (within_transact hP (.read dev reg (by decide)) hs hr fun r u hne hu hru => ?_).state
    refine within_setCmdResult hP (CmdResult.ofTx_ne_timeout hne) ?_ (by split <;> exact hru)
    split
    · exact hP (.rdata u _) hu
    · exact hu
  | wrreg dev reg data =>
    dsimp only [exec, execWrreg] at h
    refine hostEnds_of_issue hP hs h fun _ hr =>
      (within_transact hP (.write dev reg data) hs hr fun r u hne hu hru => ?_).state
    exact within_setCmdResult hP (CmdResult.ofTx_ne_timeout hne) hu hru
  | rdburst dev reg count =>
    dsimp only [exec, execRdburst] at h
    refine hostEnds_of_issue hP hs h fun hw hr =>
      (within_transact hP (.burst hw) hs hr fun r u hne hu hru => ?_).state
    refine within_setCmdResult hP (CmdResult.ofTx_ne_timeout hne) ?_ (by split <;> exact hru)
    split
    · exact hP (.loadBuf u _) hu
    · exact hu
  | scan =>
    dsimp only [exec, execScan] at h
    refine hostEnds_of_issue hP hs h fun _ hr =>
      ((within_scanFrom hP 128 0 false hs hr).andThen fun err u hu hru => ?_).state
    exact within_setCmdResult hP (by cases err <;> simp) hu hru
  | config =>
    dsimp only [exec, execConfig] at h
    exact hostEnds_of_issue hP hs h fun _ hr => (within_configSteps hP hs hr).state
  | ldbuf idx data =>
    dsimp only [exec, execLdbuf] at h
    exact hostEnds_of_issue hP hs h fun _ _ => succeeds _ (hP (.putBuf s idx.toNat data) hs)
  | convert =>
    dsimp only [exec, execConvert] at h
    exact hostEnds_of_issue hP hs h fun _ _ => succeeds _ (hP (.convert s) hs)
  | emit =>
    dsimp only [exec, execEmit] at h
    exact hostEnds_of_issue hP hs h fun _ _ => succeeds _ (hP (.emitFrame s) hs)
  | start =>
    dsimp only [exec, execStart] at h
    exact hostEnds_of_issue hP hs h fun _ hr => succeeds _ (hP (.startRun s hr) hs)

/-- What an access of a host that is not stuck leaves. -/
theorem hostEnds_of_hostAccess (a : HostAccess) (hs : P s) (h : hostAccess a s = .next t) : HostEnds P t := by
  unfold hostAccess at h
  split at h
  case isFalse => cases h
  case isTrue =>
    cases a with
    | read offset width =>
      cases h
      exact .inl (hP (.noteRead s _ _) hs)
    | write offset width w =>
      dsimp only at h
      split at h
      case isFalse =>
        cases h
        exact .inl hs
      case isTrue =>
        unfold hostCommand at h
        split at h
        · exact hostEnds_of_exec hP _ (hP (.cmdLast s w) hs) h
        · cases h
          exact .inl (hP (.cmdResult _ _ (by simp)) (hP (.cmdLast s w) hs))

end
end Sys2Proof.Machine

/-! ### The sequencer's turn and the step -/

namespace Sys2Proof.Machine

/-- The read that the sequencer issues in its phase (42_sampling_scheduler R225, R226). -/
def State.PhaseRead (s : State) (txn : BusTxn) : Prop :=
  (s.phase = .reading ∧ txn = .read s.build.devAddr s.build.regStatus 1) ∨
  (s.phase = .emitting ∧ txn = .read s.build.devAddr s.build.regOutBase sampleBytes)

/-- The sequencer can move: it is not stuck, and RUN = 1. -/
structure State.SeqFree (s : State) : Prop where
  free : s.stuckAgent .seq = false
  run : s.run = true

/-- A cycle's transaction of the sequencer completed with the entry `e`: BUS_LOG and SEQ_RESULT are written. -/
def State.seqLogged (s : State) (e : BusEntry) : State := (s.logTxn e).setSeqResult e.res

/-- Everything the sequencer's turn can do (42_sampling_scheduler R223 to R227). -/
inductive SeqStep (s : State) : State → Prop where
  | hold : SeqStep s s
  | arm : s.SeqFree → s.phase = .idle → s.ready = true → SeqStep s (s.setPhase .reading)
  | hang {txn : BusTxn} : s.SeqFree → s.PhaseRead txn → SeqStep s (s.hangOn .seq txn)
  | abandon {e : BusEntry} : s.SeqFree → s.PhaseRead e.txn → e.legal → e.res ≠ .success →
      SeqStep s (s.seqLogged e).abandonCycle
  | newData {e : BusEntry} {b : Byte} : s.SeqFree → s.phase = .reading → e.legal → e.res = .success →
      isNewDataAvailable b = true → SeqStep s (((s.seqLogged e).setLastStatus b).setPhase .emitting)
  | noData {e : BusEntry} {b : Byte} : s.SeqFree → s.phase = .reading → e.legal → e.res = .success →
      isNewDataAvailable b = false →
      SeqStep s ((((s.seqLogged e).setLastStatus b).setReady false).setPhase .idle)
  | emit {e : BusEntry} {d : List Byte} : s.SeqFree → s.phase = .emitting → e.legal → e.res = .success →
      SeqStep s (((((s.seqLogged e).loadBuf d).convert.emitFrame).setReady false).setPhase .idle)

theorem SeqStep.seqStatus {s : State} (hf : s.SeqFree) (hp : s.phase = .reading) : SeqStep s (seqStatus s) := by
  have hread : s.PhaseRead (.read s.build.devAddr s.build.regStatus 1) := .inl ⟨hp, rfl⟩
  unfold Machine.seqStatus
  obtain ⟨r, e, ht, he, hres, h⟩ | h := transact_logs_or_hangs .seq (.read (n := 1) _ _ (by decide)) s
  case inr => rw [h]; exact .hang hf hread
  simp only [h, hres, Progress.andThen_done, Progress.state_done]
  split
  case isFalse hfail => exact .abandon hf (ht ▸ hread) he hfail
  case isTrue hok =>
    split
    case isTrue hnew => exact .newData hf hp he hok hnew
    case isFalse hnone => exact .noData hf hp he hok (by simpa using hnone)

theorem SeqStep.seqEmit {s : State} (hf : s.SeqFree) (hp : s.phase = .emitting) : SeqStep s (seqEmit s) := by
  have hread : s.PhaseRead (.read s.build.devAddr s.build.regOutBase sampleBytes) := .inr ⟨hp, rfl⟩
  unfold Machine.seqEmit
  obtain ⟨r, e, ht, he, hres, h⟩ | h := transact_logs_or_hangs .seq (.read (n := sampleBytes) _ _ (by decide)) s
  case inr => rw [h]; exact .hang hf hread
  simp only [h, hres, Progress.andThen_done, Progress.state_done]
  split
  case isFalse hfail => exact .abandon hf (ht ▸ hread) he hfail
  case isTrue hok => exact .emit hf hp he hok

theorem seqTurn_seqStep (s : State) : SeqStep s (seqTurn s) := by
  unfold seqTurn
  split
  case isTrue => exact .hold
  case isFalse hfree =>
    split
    case isFalse => exact .hold
    case isTrue hrun =>
      have hf : s.SeqFree := ⟨by simpa using hfree, hrun⟩
      cases hp : s.phase with
      | idle =>
        dsimp only
        split
        · exact .arm hf hp ‹_›
        · exact .hold
      | reading => exact .seqStatus hf hp
      | emitting => exact .seqEmit hf hp

/-- The coming turns with the first one taken off. -/
def State.withTurns (rest : List Turn) (s : State) : State := { s with turns := rest }

/-- Everything a step can do: the tick, the sequencer's turn, or the host's, with that turn taken off (10_state R30). -/
theorem step_cases {s t : State} (h : step s = .next t) :
    (∃ rest, s.turns = .tick :: rest ∧ t = tick (s.withTurns rest)) ∨
    (∃ rest, s.seqNext rest ∧ SeqStep (s.withTurns rest) t) ∨
    (∃ a rest, s.turns = .host a :: rest ∧ hostTurn a (s.withTurns rest) = .next t) := by
  unfold step nextTurn at h
  split at h
  case h_2 hnil =>
    cases h
    have hsame : s.withTurns [] = s := by rw [← hnil]; rfl
    exact .inr (.inl ⟨[], .inr ⟨hnil, rfl⟩, hsame.symm ▸ seqTurn_seqStep s⟩)
  case h_1 turn rest hturns =>
    cases turn with
    | host a => exact .inr (.inr ⟨a, rest, hturns, h⟩)
    | tick => cases h; exact .inl ⟨rest, hturns, rfl⟩
    | seq => cases h; exact .inr (.inl ⟨rest, .inl hturns, seqTurn_seqStep _⟩)
    | reset => cases h

/-- Every write of the host keeps `P`, and the host getting stuck in a transaction, which needs RUN = 0. -/
structure HostClosed (P : State → Prop) : Prop where
  write : WriteClosed P
  hang : ∀ s txn, s.run = false → P s → P (s.hangOn .host txn)

/-- What one has to show for a property to be kept by every step. -/
structure StepClosed (P : State → Prop) : Prop extends HostClosed P where
  turns : ∀ s rest, P s → P (s.withTurns rest)
  tick : ∀ s, P s → P (s.setReady true)
  seq : ∀ s t, SeqStep s t → P s → P t

theorem HostClosed.ends {P : State → Prop} (hP : HostClosed P) {t : State} (h : HostEnds P t) : P t := by
  obtain h | ⟨u, txn, hu, hr, rfl⟩ := h
  · exact h
  · exact hP.hang u txn hr hu

theorem HostClosed.exec {P : State → Prop} (hP : HostClosed P) {i : Instr} {s t : State}
    (h : Machine.exec i s = .next t) (hs : P s) : P t :=
  hP.ends (hostEnds_of_exec hP.write i hs h)

/-- A turn of the host changes nothing, or is an access by a host that is not stuck. -/
theorem hostTurn_cases {a : HostAccess} {s t : State} (h : hostTurn a s = .next t) :
    t = s ∨ (s.stuckAgent .host = false ∧ hostAccess a s = .next t) := by
  unfold hostTurn at h
  split at h
  case isTrue => cases h; exact .inl rfl
  case isFalse hfree => exact .inr ⟨by simpa using hfree, h⟩

theorem HostClosed.hostTurn {P : State → Prop} (hP : HostClosed P) {a : HostAccess} {s t : State}
    (h : Machine.hostTurn a s = .next t) (hs : P s) : P t := by
  obtain rfl | ⟨-, h⟩ := hostTurn_cases h
  · exact hs
  · exact hP.ends (hostEnds_of_hostAccess hP.write a hs h)

theorem StepClosed.step {P : State → Prop} (hP : StepClosed P) {s t : State} (h : Machine.step s = .next t)
    (hs : P s) : P t := by
  obtain ⟨rest, -, rfl⟩ | ⟨rest, -, h⟩ | ⟨a, rest, -, h⟩ := step_cases h
  · exact hP.tick _ (hP.turns s rest hs)
  · exact hP.seq _ _ h (hP.turns s rest hs)
  · exact hP.hostTurn h (hP.turns s rest hs)

end Sys2Proof.Machine

/-! ## The invariant, operation by operation -/

namespace Sys2Proof.Machine

theorem frameShape_pack (b : Build) (raw : Vector Byte sampleBytes) : frameShape b.mode (pack b raw) :=
  ⟨pack_length b raw, axisField b (axisWord raw 0) ++ axisField b (axisWord raw 1) ++ axisField b (axisWord raw 2), rfl⟩

theorem frameShape_resetFrame (m : Mode) : frameShape m (resetFrame m) := by
  refine ⟨?_, List.replicate (flen m - 2) 0x00#8, rfl⟩
  cases m <;> rfl

theorem wholeFrames_nil (m : Mode) : wholeFrames m [] 0 := ⟨[], rfl, rfl, by simp⟩

theorem wholeFrames.append {m : Mode} {out f : List Byte} {n : Nat} (h : wholeFrames m out n) (hf : frameShape m f) :
    wholeFrames m (out ++ f) (n + 1) := by
  obtain ⟨fs, rfl, rfl, hfs⟩ := h
  refine ⟨fs ++ [f], by simp, by simp, fun g hg => ?_⟩
  obtain hg | rfl : g ∈ fs ∨ g = f := by simpa using hg
  · exact hfs g hg
  · exact hf

namespace State.Inv

variable {s : State} (h : s.Inv)
include h

/-- With RUN = 0 and the host not stuck, no transaction is in flight. -/
theorem hung_eq_none_of_hostFree (hr : s.run = false) (hfree : s.stuckAgent .host = false) : s.hung = none := by
  cases hh : s.hung with
  | none => rfl
  | some g =>
    obtain ⟨hwho, -⟩ | ⟨-, hrun, -⟩ := h.hang g hh
    · simp [State.stuckAgent, hh, hwho] at hfree
    · simp [hr] at hrun

/-- While the sequencer can move, no transaction is in flight. -/
theorem hung_eq_none_of_seqFree (hf : s.SeqFree) : s.hung = none := by
  cases hh : s.hung with
  | none => rfl
  | some g =>
    obtain ⟨-, hrun⟩ | ⟨hwho, -⟩ := h.hang g hh
    · simp [hf.run] at hrun
    · simpa [State.stuckAgent, hh, hwho] using hf.free

theorem withTurns (rest : List Turn) : (s.withTurns rest).Inv := { h with }

theorem tick : (s.setReady true).Inv := { h with armed := fun hp => ⟨rfl, (h.armed hp).2⟩ }

theorem setReady_of_idle (b : Bool) (hp : s.phase = .idle) : (s.setReady b).Inv :=
  { h with armed := fun hne => absurd hp hne }

theorem setCmdResult {r : CmdResult} (hr : r ≠ .timeout) : (s.setCmdResult r).Inv :=
  { h with noTimeout := ⟨hr, h.noTimeout.2⟩ }

theorem setSeqResult {r : TxResult} (hr : r ≠ .timeout) : (s.setSeqResult r).Inv :=
  { h with noTimeout := ⟨h.noTimeout.1, hr⟩ }

theorem countError : s.countError.Inv := { h with }

theorem setLastStatus (b : Byte) : (s.setLastStatus b).Inv := { h with }

theorem loadBuf (d : List Byte) : (s.loadBuf d).Inv := { h with }

theorem startRun (hnone : s.hung = none) : s.startRun.Inv :=
  { h with
    armed := fun hp => ⟨(h.armed hp).1, rfl⟩
    hang := fun g hg => absurd (hnone.symm.trans hg) (by simp) }

theorem setPhase {p : Phase} (hnone : s.hung = none) (hp : p ≠ .idle → s.ready = true ∧ s.run = true) :
    (s.setPhase p).Inv :=
  { h with
    armed := hp
    hang := fun g hg => absurd (hnone.symm.trans hg) (by simp) }

theorem setPhase_idle (hnone : s.hung = none) : (s.setPhase .idle).Inv := h.setPhase hnone (absurd rfl)

theorem convert : s.convert.Inv := { h with frame := frameShape_pack _ _ }

theorem emitFrame : s.emitFrame.Inv := by
  rw [emitFrame_of_length s h.frame.1]
  obtain ⟨n, hout, hcount⟩ := h.output
  refine { h with output := ⟨n + 1, hout.append h.frame, ?_⟩ }
  simp [hcount, BitVec.ofNat_add]

theorem logTxn {e : BusEntry} (he : e.legal) : (s.logTxn e).Inv := by
  have hflight : (s.logTxn e).inFlight = s.inFlight := rfl
  refine { h with logged := ?_, logLegal := fun e' he' => ?_ }
  · simp only [State.logTxn_asked, State.logTxn_busLog, hflight, h.logged, List.length_append, List.length_singleton]
    omega
  · obtain he' | rfl : e' ∈ s.busLog ∨ e' = e := by simpa using he'
    · exact h.logLegal e' he'
    · exact he

theorem hangOn {who : Agent} {txn : BusTxn} (hnone : s.hung = none)
    (hwho : who = .host ∧ s.run = false ∨ who = .seq ∧ s.run = true ∧ s.PhaseRead txn) : (s.hangOn who txn).Inv := by
  have hlogged := h.logged
  refine { h with hang := fun g hg => ?_, logged := ?_ }
  · obtain rfl : ⟨who, txn⟩ = g := by simpa using hg
    exact hwho
  · simpa [State.inFlight, hnone] using hlogged

theorem seqLogged {e : BusEntry} (he : e.legal) : (s.seqLogged e).Inv := (h.logTxn he).setSeqResult he.1

end State.Inv

/-- The invariant, with the host not stuck, is kept by every write of the host. -/
theorem inv_writeClosed : WriteClosed fun s => s.Inv ∧ s.stuckAgent .host = false := by
  intro u v hw ⟨h, hfree⟩
  refine ⟨?_, by cases hw <;> exact hfree⟩
  cases hw with
  | cmdLast | noteRead | rdata | ident | cfgWrote | present | loadBuf | putBuf => exact { h with }
  | cmdResult r hr => exact h.setCmdResult hr
  | convert => exact h.convert
  | emitFrame => exact h.emitFrame
  | startRun hr => exact h.startRun (h.hung_eq_none_of_hostFree hr hfree)
  | logTxn e _ he => exact h.logTxn he

theorem State.Inv.hostTurn {a : HostAccess} {s t : State} (h : s.Inv) (ht : hostTurn a s = .next t) : t.Inv := by
  obtain rfl | ⟨hfree, ht⟩ := hostTurn_cases ht
  · exact h
  · obtain ⟨h, -⟩ | ⟨u, txn, ⟨h, hfree⟩, hr, rfl⟩ := hostEnds_of_hostAccess inv_writeClosed a ⟨h, hfree⟩ ht
    · exact h
    · exact h.hangOn (h.hung_eq_none_of_hostFree hr hfree) (.inl ⟨rfl, hr⟩)

theorem State.Inv.seqStep {s t : State} (h : s.Inv) (ht : SeqStep s t) : t.Inv := by
  cases ht with
  | hold => exact h
  | arm hf _ hready => exact h.setPhase (h.hung_eq_none_of_seqFree hf) fun _ => ⟨hready, hf.run⟩
  | hang hf hread => exact h.hangOn (h.hung_eq_none_of_seqFree hf) (.inr ⟨rfl, hf.run, hread⟩)
  | abandon hf _ he _ => exact (h.seqLogged he).countError.setPhase_idle (h.hung_eq_none_of_seqFree hf)
  | newData hf hp he _ _ =>
    have hready : s.ready = true := (h.armed (by simp [hp])).1
    exact ((h.seqLogged he).setLastStatus _).setPhase (h.hung_eq_none_of_seqFree hf) fun _ => ⟨hready, hf.run⟩
  | noData hf _ he _ _ =>
    exact (((h.seqLogged he).setLastStatus _).setPhase_idle (h.hung_eq_none_of_seqFree hf)).setReady_of_idle false rfl
  | emit hf _ he _ =>
    exact ((((h.seqLogged he).loadBuf _).convert.emitFrame).setPhase_idle
      (h.hung_eq_none_of_seqFree hf)).setReady_of_idle false rfl

/-- Settles O47: the tick, the sequencer's transitions and the host's writes each keep the invariant. -/
theorem everyStepKeepsTheInvariant : Obligations.EveryStepKeepsTheInvariant := by
  intro s t h ht
  obtain ⟨rest, -, rfl⟩ | ⟨rest, -, ht⟩ | ⟨a, rest, -, ht⟩ := step_cases ht
  · exact (h.withTurns rest).tick
  · exact (h.withTurns rest).seqStep ht
  · exact (h.withTurns rest).hostTurn ht

/-- Settles O48. -/
theorem resetHasTheInvariant : Obligations.ResetHasTheInvariant := by
  have inv (b : Build) : (State.resetIn b).Inv :=
    { frame := frameShape_resetFrame b.mode
      armed := absurd rfl
      noTimeout := ⟨by simp [State.resetIn], by simp [State.resetIn]⟩
      hang := by simp [State.hangLegal, State.resetIn]
      logged := rfl
      logLegal := by simp [State.resetIn]
      output := ⟨0, wholeFrames_nil b.mode, rfl⟩ }
  exact ⟨inv, inv Config.build⟩

end Sys2Proof.Machine

/-! ## What single registers keep through a step -/

namespace Sys2Proof.Machine

/-- The host never writes READY. -/
theorem ready_hostClosed (b : Bool) : HostClosed fun s => s.ready = b where
  write _ _ hw h := by cases hw <;> exact h
  hang _ _ _ h := h

theorem busyReady_stepClosed : StepClosed fun s => s.phase ≠ .idle → s.ready = true where
  write _ _ hw h := by cases hw <;> exact h
  hang _ _ _ h := h
  turns _ _ h := h
  tick _ _ _ := rfl
  seq s t ht h := by
    cases ht with
    | hold | hang => exact h
    | arm _ _ hready => exact fun _ => hready
    | newData _ hp => exact fun _ => h (by simp [hp])
    | abandon | noData | emit => exact absurd rfl

/-- Settles O44. -/
theorem busyPhaseKeepsReady : Obligations.BusyPhaseKeepsReady :=
  ⟨absurd rfl, fun _ _ h ht => busyReady_stepClosed.step ht h⟩

theorem frameShape_stepClosed : StepClosed fun s => frameShape s.build.mode s.frame where
  write u v hw h := by
    cases hw with
    | convert => exact frameShape_pack _ _
    | _ => exact h
  hang _ _ _ h := h
  turns _ _ h := h
  tick _ h := h
  seq s t ht h := by
    cases ht with
    | emit => exact frameShape_pack _ _
    | _ => exact h

/-- Settles O45: only CONVERT's operation writes FRAME, and it writes a packed frame. -/
theorem frameSentinelsAreNeverOverwritten : Obligations.FrameSentinelsAreNeverOverwritten :=
  fun _ _ h ht => frameShape_stepClosed.step ht h

theorem build_stepClosed (b : Build) : StepClosed fun s => s.build = b where
  write _ _ hw h := by cases hw <;> exact h
  hang _ _ _ h := h
  turns _ _ h := h
  tick _ h := h
  seq _ _ ht h := by cases ht <;> exact h

/-- Settles O50. -/
theorem buildParametersNeverChange : Obligations.BuildParametersNeverChange :=
  ⟨fun s _ ht => (build_stepClosed s.build).step ht rfl, fun _ s _ ht => (build_stepClosed s.build).exec ht rfl⟩

/-- A turn of the sequencer that clears READY ends a cycle that emitted a frame or found no new data. -/
theorem SeqStep.clears_ready {s t : State} (ht : SeqStep s t) (hs : s.ready = true) (hclear : t.ready = false) :
    s.run = true ∧ s.phase ≠ .idle ∧ t.phase = .idle ∧ t.seqResult = .success ∧
      ((s.phase = .emitting ∧ t.frameCount = s.frameCount + 1#32) ∨
       (s.phase = .reading ∧ t.lastStatus.getLsbD 3 = false ∧ t.out = s.out)) := by
  have kept {p : Prop} (h : t.ready = s.ready) : p := by simp [h, hs] at hclear
  cases ht with
  | hold | arm | hang | abandon | newData => exact kept rfl
  | noData hf hp _ hok hnone => exact ⟨hf.run, by simp [hp], rfl, hok, .inr ⟨hp, hnone, rfl⟩⟩
  | emit hf hp _ hok => exact ⟨hf.run, by simp [hp], rfl, hok, .inl ⟨hp, rfl⟩⟩

theorem SeqStep.never_sets_ready {s t : State} (ht : SeqStep s t) (hs : s.ready = false) : t.ready = false := by
  cases ht with
  | noData | emit => rfl
  | _ => exact hs

/-- Settles O51: a tick only sets READY, the sequencer only clears it, and the host never writes it. -/
theorem onlyTickSetsAndOnlySequencerClearsReady : Obligations.OnlyTickSetsAndOnlySequencerClearsReady := by
  intro s t ht
  obtain ⟨rest, hturns, rfl⟩ | ⟨rest, hnext, ht⟩ | ⟨a, rest, -, ht⟩ := step_cases ht
  · exact ⟨fun _ _ => ⟨rest, hturns⟩, fun _ hclear => absurd hclear (by simp [tick])⟩
  · refine ⟨fun hs hset => ?_, fun hs hclear => ⟨⟨rest, hnext⟩, ht.clears_ready hs hclear⟩⟩
    exact absurd (ht.never_sets_ready hs) (by simp [hset])
  · have hready : t.ready = s.ready := (ready_hostClosed s.ready).hostTurn ht rfl
    exact ⟨fun hs hset => by simp [hready, hs] at hset, fun hs hclear => by simp [hready, hs] at hclear⟩

/-! ## The logs -/

/-- BUS_LOG and OUT of `t` are those of `s` with legal entries and bytes added at the end. -/
def State.LogsExtend (s t : State) : Prop :=
  (∃ es : List BusEntry, t.busLog = s.busLog ++ es ∧ ∀ e ∈ es, e.legal) ∧ ∃ bytes : List Byte, t.out = s.out ++ bytes

theorem State.LogsExtend.refl (s : State) : s.LogsExtend s := ⟨⟨[], by simp, by simp⟩, [], by simp⟩

theorem State.LogsExtend.logTxn {s t : State} {e : BusEntry} (h : s.LogsExtend t) (he : e.legal) :
    s.LogsExtend (t.logTxn e) := by
  obtain ⟨⟨es, hlog, hes⟩, hout⟩ := h
  refine ⟨⟨es ++ [e], by simp [hlog], fun e' he' => ?_⟩, hout⟩
  obtain he' | rfl : e' ∈ es ∨ e' = e := by simpa using he'
  · exact hes e' he'
  · exact he

theorem State.LogsExtend.emitFrame {s t : State} (h : s.LogsExtend t) : s.LogsExtend t.emitFrame := by
  obtain ⟨hlog, bytes, hout⟩ := h
  exact ⟨hlog, bytes ++ t.frame.take (flen t.build.mode), by simp [State.emitFrame, hout]⟩

theorem logsExtend_stepClosed (s : State) : StepClosed s.LogsExtend where
  write u v hw h := by
    cases hw with
    | logTxn e _ he => exact h.logTxn he
    | emitFrame => exact h.emitFrame
    | _ => exact h
  hang _ _ _ h := h
  turns _ _ h := h
  tick _ h := h
  seq u t ht h := by
    cases ht with
    | hold | arm | hang => exact h
    | abandon _ _ he | newData _ _ he | noData _ _ he => exact h.logTxn he
    | @emit e d _ _ he =>
      have hsent : s.LogsExtend ((u.seqLogged e).loadBuf d).convert := h.logTxn he
      exact hsent.emitFrame

/-- Settles O54. -/
theorem logsOnlyGrowByLegalEntries : Obligations.LogsOnlyGrowByLegalEntries :=
  fun s _ ht => (logsExtend_stepClosed s).step ht (.refl s)

/-! ## The host register map and reset -/

/-- Settles O56, along the branches of `schedState`. -/
theorem schedStateIsTheViewOfPhaseAndReady : Obligations.SchedStateIsTheViewOfPhaseAndReady := by
  intro s
  refine ⟨fun hp => ?_, fun hp => ?_, fun hp hr => ?_, fun hp hr => ?_⟩
  · simp [schedState, hp]
  · simp [schedState, hp]
  · simp [schedState, hp, hr]
  · simp [schedState, hp, hr]

/-- A step whose first turn is an access of a host that is not stuck is that access. -/
theorem step_of_hostAccess {s : State} {a : HostAccess} {rest : List Turn} (hfree : s.stuckAgent .host = false)
    (hturns : s.turns = .host a :: rest) : step s = hostAccess a (s.withTurns rest) := by
  have hfree' : (s.withTurns rest).stuckAgent .host = false := hfree
  simp only [step, nextTurn, hturns, takeTurn]
  change hostTurn a (s.withTurns rest) = _
  simp [hostTurn, hfree']

/-- Settles O57. -/
theorem hostAccessesFollowTheMap : Obligations.HostAccessesFollowTheMap := by
  intro s rest hfree
  refine ⟨fun off haligned hturns => ?_, fun off w haligned hoff hturns => ?_, fun off width w hodd hturns => ?_⟩
  · rw [step_of_hostAccess hfree hturns]
    simp only [hostAccess, HostAccess.legal, haligned, BEq.rfl, Bool.and_self, if_true]
    rfl
  · rw [step_of_hostAccess hfree hturns]
    simp only [hostAccess, HostAccess.legal, haligned, hoff, BEq.rfl, Bool.and_self, if_true, if_false]
    rfl
  · have hillegal : (width == 4 && off % 4 == 0) = false := by
      obtain h | h := hodd <;> simp [h]
    obtain hturns | hturns := hturns
    all_goals
      rw [step_of_hostAccess hfree hturns]
      simp only [hostAccess, HostAccess.legal, hillegal, Bool.false_eq_true, if_false]

/-- Settles O58. -/
theorem resetValuesAreTheSpecs : Obligations.ResetValuesAreTheSpecs := by
  refine ⟨rfl, fun b => ⟨rfl, rfl, rfl, rfl, rfl, rfl, rfl, rfl, rfl, rfl, rfl, rfl, rfl, fun a => ?_, fun k hk => ?_,
    rfl, rfl, rfl, rfl⟩⟩
  · simp [presentBit, State.resetIn]
  · simp [State.resetIn]

end Sys2Proof.Machine

/-! ## The words of the host register map -/

namespace Sys2Proof.Machine

theorem hostWord_cmdLast (s : State) : hostWord s 0x00 = s.cmdLast := rfl
theorem hostWord_result (s : State) : hostWord s 0x04 = resultWord s := rfl
theorem hostWord_rdata (s : State) : hostWord s 0x08 = s.rdata.setWidth 32 := rfl
theorem hostWord_sched (s : State) : hostWord s 0x0C = schedWord s := rfl
theorem hostWord_errCount (s : State) : hostWord s 0x10 = s.errCount := rfl
theorem hostWord_frameCount (s : State) : hostWord s 0x14 = s.frameCount := rfl
theorem hostWord_diag (s : State) : hostWord s 0x18 = diagWord s := rfl

theorem hostWord_present (s : State) {k : Nat} (hk : k < 4) :
    hostWord s (0x20 + 4 * k) = s.present.extractLsb' (32 * k) 32 := by
  match k, hk with
  | 0, _ | 1, _ | 2, _ | 3, _ => rfl

theorem hostWord_buf (s : State) {k : Nat} (hk : k < 8) : hostWord s (0x40 + 4 * k) = packWord s.buf.toList k := by
  match k, hk with
  | 0, _ | 1, _ | 2, _ | 3, _ | 4, _ | 5, _ | 6, _ | 7, _ => rfl

theorem hostWord_frame (s : State) {k : Nat} (hk : k < 4) :
    hostWord s (0x60 + 4 * k) = packWord (s.frame.take (flen s.build.mode)) k := by
  match k, hk with
  | 0, _ | 1, _ | 2, _ | 3, _ => rfl

/-- Every offset outside the map reads 0. -/
theorem hostWord_reserved (s : State) {off : Nat}
    (h : off ∉ [0x00, 0x04, 0x08, 0x0C, 0x10, 0x14, 0x18, 0x20, 0x24, 0x28, 0x2C, 0x40, 0x44, 0x48, 0x4C, 0x50, 0x54,
      0x58, 0x5C, 0x60, 0x64, 0x68, 0x6C]) : hostWord s off = 0#32 := by
  simp only [List.mem_cons, List.not_mem_nil, or_false, not_or] at h
  have hpresent : ¬(0x20 ≤ off ∧ off < 0x30 ∧ off % 4 = 0) := by omega
  have hbuf : ¬(0x40 ≤ off ∧ off < 0x40 + burstMax ∧ off % 4 = 0) := by unfold burstMax; omega
  have hframe : ¬(0x60 ≤ off ∧ off < 0x70 ∧ off % 4 = 0) := by omega
  simp only [hostWord, h, hpresent, hbuf, hframe, if_false]

/-- Byte j of a packed word is byte 4k+j of the array (20_memory R74). -/
theorem extractLsb'_packWord (bytes : List Byte) (k : Nat) {j : Nat} (hj : j < 4) :
    (packWord bytes k).extractLsb' (8 * j) 8 = bytes.getD (4 * k + j) 0x00#8 := by
  unfold packWord
  match j, hj with
  | 0, _ => exact BitVec.extractLsb'_append_eq_right
  | 1, _ =>
    refine (BitVec.extractLsb'_append_eq_of_le (by decide)).trans ?_
    exact BitVec.extractLsb'_append_eq_right
  | 2, _ =>
    refine (BitVec.extractLsb'_append_eq_of_le (by decide)).trans ?_
    refine (BitVec.extractLsb'_append_eq_of_le (by decide)).trans ?_
    exact BitVec.extractLsb'_append_eq_right
  | 3, _ =>
    refine (BitVec.extractLsb'_append_eq_of_le (by decide)).trans ?_
    refine (BitVec.extractLsb'_append_eq_of_le (by decide)).trans ?_
    exact BitVec.extractLsb'_append_eq_left

theorem resultWord_fields (s : State) :
    (resultWord s).extractLsb' 0 3 = s.cmdResult.code ∧ (resultWord s).extractLsb' 8 2 = s.seqResult.code ∧
      resultWord s &&& 0xFFFFFCF8#32 = 0#32 := by
  unfold resultWord
  refine ⟨BitVec.extractLsb'_append_eq_right, ?_, ?_⟩
  · refine (BitVec.extractLsb'_append_eq_of_le (by decide)).trans ?_
    exact (BitVec.extractLsb'_append_eq_of_le (by decide)).trans BitVec.extractLsb'_append_eq_right
  · change (0#22 ++ s.seqResult.code ++ 0#5 ++ s.cmdResult.code) &&& (0x3FFFFF#22 ++ 0#2 ++ 0x1F#5 ++ 0#3) =
      0#22 ++ 0#2 ++ 0#5 ++ 0#3
    simp only [BitVec.and_append, BitVec.and_zero, BitVec.zero_and]

theorem schedWord_fields (s : State) :
    (schedWord s).getLsbD 0 = s.run ∧ (schedWord s).getLsbD 1 = s.ready ∧
      (schedWord s).extractLsb' 2 2 = schedState s.phase s.ready ∧
      (schedWord s).getLsbD 4 = decide (s.build.mode = .physical) ∧ schedWord s &&& 0xFFFFFFE0#32 = 0#32 := by
  unfold schedWord
  refine ⟨?_, ?_, ?_, ?_, ?_⟩
  · rw [BitVec.getLsbD_append]
    simp
  · rw [BitVec.getLsbD_append, BitVec.getLsbD_append]
    simp
  · refine (BitVec.extractLsb'_append_eq_of_le (by decide)).trans ?_
    exact (BitVec.extractLsb'_append_eq_of_le (by decide)).trans BitVec.extractLsb'_append_eq_right
  · rw [BitVec.getLsbD_append, BitVec.getLsbD_append, BitVec.getLsbD_append, BitVec.getLsbD_append]
    cases s.build.mode <;> rfl
  · change
      (0#27 ++ modeBit s.build.mode ++ schedState s.phase s.ready ++ BitVec.ofBool s.ready ++ BitVec.ofBool s.run) &&&
        (0x7FFFFFF#27 ++ 0#1 ++ 0#2 ++ 0#1 ++ 0#1) = 0#27 ++ 0#1 ++ 0#2 ++ 0#1 ++ 0#1
    simp only [BitVec.and_append, BitVec.and_zero, BitVec.zero_and]

theorem diagWord_fields (s : State) :
    (diagWord s).extractLsb' 0 8 = s.lastStatus ∧ (diagWord s).extractLsb' 8 8 = s.ident ∧
      (diagWord s).extractLsb' 16 2 = s.cfgWrote ∧ diagWord s &&& 0xFFFC0000#32 = 0#32 := by
  unfold diagWord
  refine ⟨BitVec.extractLsb'_append_eq_right, ?_, ?_, ?_⟩
  · exact (BitVec.extractLsb'_append_eq_of_le (by decide)).trans BitVec.extractLsb'_append_eq_right
  · refine (BitVec.extractLsb'_append_eq_of_le (by decide)).trans ?_
    exact (BitVec.extractLsb'_append_eq_of_le (by decide)).trans BitVec.extractLsb'_append_eq_right
  · change (0#14 ++ s.cfgWrote ++ s.ident ++ s.lastStatus) &&& (0x3FFF#14 ++ 0#2 ++ 0#8 ++ 0#8) =
      0#14 ++ 0#2 ++ 0#8 ++ 0#8
    simp only [BitVec.and_append, BitVec.and_zero, BitVec.zero_and]

/-- Settles O55, register by register. -/
theorem hostRegisterMapWords : Obligations.HostRegisterMapWords := by
  intro s
  obtain ⟨hcmd, hseq, hresult⟩ := resultWord_fields s
  refine ⟨hostWord_cmdLast s, ⟨?_, ?_, hresult⟩, ?_, schedWord_fields s, hostWord_errCount s, hostWord_frameCount s,
    diagWord_fields s, fun k j hk hj => ?_, fun k j hk hj => ?_, fun k j hk hj => ?_, fun off => hostWord_reserved s⟩
  · rw [hostWord_result, hcmd]
    cases s.cmdResult <;> rfl
  · rw [hostWord_result, hseq]
    cases s.seqResult <;> rfl
  · rw [hostWord_rdata, BitVec.toNat_setWidth_of_le (by decide)]
  · rw [hostWord_present s hk, BitVec.getLsbD_extractLsb']
    simp [hj]
  · rw [hostWord_buf s hk, extractLsb'_packWord _ k hj]
    have hbound : 4 * k + j < burstMax := by unfold burstMax; omega
    simp [hbound]
  · rw [hostWord_frame s hk, extractLsb'_packWord _ k hj]
    simp only [List.getD_eq_getElem?_getD, List.getElem?_take]
    split <;> rfl

end Sys2Proof.Machine

/-! ## Decoding and encoding

Everything about the decoder rests on two facts about the rows of the opcode map (30_encoding R109): their OP bytes are
all different, and a row accepts exactly the words that are the encoding of what it reads from them. -/

namespace Sys2Proof

/-! ### The encoder and the fields of its word -/

theorem commandWord_eq_iff {op : BitVec 8} {dev : DevAddr} {reg : RegAddr} {data : Byte} {w : Word} :
    commandWord op dev reg data = w ↔
      fieldOp w = op ∧ fieldRsv w = 0#1 ∧ fieldDev w = dev ∧ fieldReg w = reg ∧ fieldData w = data := by
  constructor
  · rintro rfl
    simp [commandWord_eq_fiveFields]
  · rintro ⟨rfl, hrsv, rfl, rfl, rfl⟩
    rw [commandWord_eq_fiveFields, ← hrsv]
    exact (word_eq_fiveFields w).symm

@[simp] theorem fieldDev_commandWord (op : BitVec 8) (dev : DevAddr) (reg : RegAddr) (data : Byte) :
    fieldDev (commandWord op dev reg data) = dev := fieldDev_fiveFields _ _ _ _ _
@[simp] theorem fieldReg_commandWord (op : BitVec 8) (dev : DevAddr) (reg : RegAddr) (data : Byte) :
    fieldReg (commandWord op dev reg data) = reg := fieldReg_fiveFields _ _ _ _ _
@[simp] theorem fieldData_commandWord (op : BitVec 8) (dev : DevAddr) (reg : RegAddr) (data : Byte) :
    fieldData (commandWord op dev reg data) = data := fieldData_fiveFields _ _ _ _ _

theorem toNat_commandWord (op : BitVec 8) (dev : DevAddr) (reg : RegAddr) (data : Byte) :
    (commandWord op dev reg data).toNat = data.toNat * 2 ^ 24 + reg.toNat * 2 ^ 16 + dev.toNat * 2 ^ 8 + op.toNat := by
  simp [commandWord_eq_fiveFields, toNat_fiveFields]

theorem getLsbD_of_fieldRsv {w : Word} (h : fieldRsv w = 0#1) : w.getLsbD 15 = false := by
  have hbit := congrArg (BitVec.getLsbD · 0) h
  simpa [fieldRsv] using hbit

/-- Every encoding is a command word with some fields, so its RSV bit is 0 (30_encoding R101). -/
theorem fieldRsv_encode (i : Instr) : fieldRsv (encode i) = 0#1 := by
  cases i
  all_goals exact fieldRsv_fiveFields _ _ _ _ _

/-! ### The rows of the opcode map -/

theorem OpcodeRow.accepts_iff {r : OpcodeRow} {w : Word} : r.accepts w = true ↔ w &&& r.mask = r.pattern := beq_iff_eq

/-- A row accepts exactly the words that are the encoding of what it reads from them. -/
theorem accepts_iff_encode_read (w : Word) :
    ∀ r ∈ opcodeMap, r.accepts w = true ↔ encode (r.read w) = w := by
  have formatN (op : BitVec 8) :
      w &&& 0xFFFFFFFF#32 = fiveFields 0#8 0#8 0#1 0#7 op ↔ commandWord op 0#7 0#8 0#8 = w :=
    (accepts_formatN w op).trans eq_comm
  simp only [opcodeMap, List.forall_mem_cons, OpcodeRow.accepts_iff, encode]
  refine ⟨(accepts_formatD w 0x01#8).trans ?_, (accepts_formatDR w 0x02#8).trans ?_,
    (accepts_formatDRV w 0x03#8).trans ?_, (accepts_formatDRV w 0x04#8).trans ?_, formatN 0x05#8, formatN 0x06#8,
    (accepts_formatIV w 0x07#8).trans ?_, formatN 0x08#8, formatN 0x09#8, formatN 0x0A#8, by simp⟩
  all_goals simp [commandWord_eq_iff]

theorem fieldOp_and (w m : Word) : fieldOp (w &&& m) = fieldOp w &&& fieldOp m := BitVec.extractLsb'_and

/-- Every mask keeps the whole OP byte, so a row accepts only words with its own OP. -/
theorem fieldOp_of_accepts {r : OpcodeRow} {w : Word} (hr : r ∈ opcodeMap) (h : r.accepts w = true) :
    fieldOp w = fieldOp r.pattern := by
  have hmask : ∀ r ∈ opcodeMap, fieldOp r.mask = BitVec.allOnes 8 := by decide
  rw [← OpcodeRow.accepts_iff.mp h, fieldOp_and, hmask r hr, BitVec.and_allOnes]

/-- Settles O3: the rows' OP bytes are pairwise different, and a row accepts only words with its own. -/
theorem opcodeRowsNeverOverlap : Obligations.OpcodeRowsNeverOverlap := by
  intro w j k hj hk
  have hdistinct : ∀ j k : Fin opcodeMap.length,
      fieldOp opcodeMap[j].pattern = fieldOp opcodeMap[k].pattern → j = k := by decide
  have hopj := fieldOp_of_accepts (List.getElem_mem j.isLt) hj
  have hopk := fieldOp_of_accepts (List.getElem_mem k.isLt) hk
  exact hdistinct j k (hopj.symm.trans hopk)

theorem OpcodeRow.eq_of_accepts {w : Word} {r r' : OpcodeRow} (hr : r ∈ opcodeMap) (hr' : r' ∈ opcodeMap)
    (h : r.accepts w = true) (h' : r'.accepts w = true) : r = r' := by
  obtain ⟨j, hj, rfl⟩ := List.getElem_of_mem hr
  obtain ⟨k, hk, rfl⟩ := List.getElem_of_mem hr'
  cases opcodeRowsNeverOverlap w ⟨j, hj⟩ ⟨k, hk⟩ h h'
  rfl

/-- Every command has its row, which reads it back from its word. -/
theorem exists_row_reads_encode (i : Instr) : ∃ r ∈ opcodeMap, r.read (encode i) = i := by
  have row (k : Fin 10) (h : (opcodeMap[k.val]'k.isLt).read (encode i) = i) :
      ∃ r ∈ opcodeMap, r.read (encode i) = i := ⟨_, List.getElem_mem k.isLt, h⟩
  cases i with
  | probe dev => exact row 0 (by simp [opcodeMap, encode])
  | rdreg dev reg => exact row 1 (by simp [opcodeMap, encode])
  | wrreg dev reg data => exact row 2 (by simp [opcodeMap, encode])
  | rdburst dev reg count => exact row 3 (by simp [opcodeMap, encode])
  | scan => exact row 4 rfl
  | config => exact row 5 rfl
  | ldbuf idx data => exact row 6 (by simp [opcodeMap, encode])
  | convert => exact row 7 rfl
  | emit => exact row 8 rfl
  | start => exact row 9 rfl

/-! ### The decoder -/

/-- The lookup finds the one row that accepts the word. -/
theorem find?_accepts_eq_some_iff {w : Word} {r : OpcodeRow} :
    opcodeMap.find? (fun r => r.accepts w) = some r ↔ r ∈ opcodeMap ∧ r.accepts w = true := by
  have sound {r : OpcodeRow} (h : opcodeMap.find? (fun r => r.accepts w) = some r) :
      r ∈ opcodeMap ∧ r.accepts w = true :=
    ⟨List.mem_of_find?_eq_some h, List.find?_some (p := (OpcodeRow.accepts · w)) h⟩
  refine ⟨sound, fun ⟨hr, h⟩ => ?_⟩
  cases hfind : opcodeMap.find? (fun r => r.accepts w) with
  | none => exact absurd h (List.find?_eq_none.mp hfind r hr)
  | some r' =>
    obtain ⟨hr', h'⟩ := sound hfind
    rw [OpcodeRow.eq_of_accepts hr' hr h' h]

/-- Where a row accepts a word, decoding is that row's reading and the check of the operands (30_encoding R110). -/
theorem decode_of_accepts {w : Word} {r : OpcodeRow} (hr : r ∈ opcodeMap) (h : r.accepts w = true) :
    decode w = if (r.read w).wf then .ok (r.read w) else .error .operandRange := by
  simp only [decode, find?_accepts_eq_some_iff.mpr ⟨hr, h⟩]

/-- A word that decodes was accepted by a row. -/
theorem exists_row_of_decode_ok {w : Word} {i : Instr} (h : decode w = .ok i) :
    ∃ r ∈ opcodeMap, r.accepts w = true ∧ r.read w = i ∧ i.wf = true := by
  unfold decode at h
  split at h
  case h_1 r hfind =>
    split at h
    case isTrue hwf =>
      cases h
      obtain ⟨hr, haccepts⟩ := find?_accepts_eq_some_iff.mp hfind
      exact ⟨r, hr, haccepts, rfl, hwf⟩
    case isFalse => cases h
  case h_2 => split at h <;> cases h

/-- What the decoder makes of any command's word: the command, if its operands are legal. -/
theorem decode_encode (i : Instr) : decode (encode i) = if i.wf then .ok i else .error .operandRange := by
  obtain ⟨r, hr, hread⟩ := exists_row_reads_encode i
  have haccepts : r.accepts (encode i) = true := (accepts_iff_encode_read _ r hr).mpr (by rw [hread])
  rw [decode_of_accepts hr haccepts, hread]

/-- Settles O1. -/
theorem decodeOfEncodeIsIdentity : Obligations.DecodeOfEncodeIsIdentity := by
  intro i hwf
  rw [decode_encode, if_pos hwf]

/-- Settles O2: the row that accepts the word reads a command whose encoding is the word. -/
theorem acceptedWordIsItsOwnEncoding : Obligations.AcceptedWordIsItsOwnEncoding := by
  intro w i h
  obtain ⟨r, hr, haccepts, rfl, hwf⟩ := exists_row_of_decode_ok h
  exact ⟨(accepts_iff_encode_read w r hr).mp haccepts, hwf⟩

theorem exists_decode_encode_iff (i : Instr) : (∃ j, decode (encode i) = .ok j) ↔ i.wf = true := by
  rw [decode_encode]
  cases i.wf <;> simp

/-- A word whose OP no row has is accepted by no row, and refused as reserved (30_encoding R111). -/
theorem decode_of_reservedOp {w : Word} (h : w.toNat % 256 = 0 ∨ 0x0B ≤ w.toNat % 256) :
    decode w = .error .reservedOp := by
  have hops : ∀ r ∈ opcodeMap, 1 ≤ (fieldOp r.pattern).toNat ∧ (fieldOp r.pattern).toNat ≤ 0x0A := by decide
  have hne : ∀ r ∈ opcodeMap, fieldOp r.pattern ≠ fieldOp w := by
    intro r hr heq
    obtain ⟨hlow, hhigh⟩ := hops r hr
    rw [heq, toNat_fieldOp] at hlow hhigh
    omega
  have hfind : opcodeMap.find? (fun r => r.accepts w) = none :=
    List.find?_eq_none.mpr fun r hr haccepts => hne r hr (fieldOp_of_accepts hr haccepts).symm
  have hany : opcodeMap.any (fun r => fieldOp r.pattern == fieldOp w) = false :=
    List.any_eq_false.mpr fun r hr heq => hne r hr (beq_iff_eq.mp heq)
  simp only [decode, hfind, hany, Bool.false_eq_true, if_false]

/-- Settles O6: the word is its command's encoding, whose unused fields are 0. -/
theorem acceptedWordHasReservedBitsClear : Obligations.AcceptedWordHasReservedBitsClear := by
  intro w i h
  obtain ⟨rfl, -⟩ := acceptedWordIsItsOwnEncoding w i h
  refine ⟨getLsbD_of_fieldRsv (fieldRsv_encode i), ?_⟩
  cases i with
  | probe dev =>
    have hdev := dev.isLt
    simp only [encode, toNat_commandWord, BitVec.toNat_ofNat]
    omega
  | rdreg dev reg =>
    have hdev := dev.isLt
    have hreg := reg.isLt
    simp only [encode, toNat_commandWord, BitVec.toNat_ofNat]
    omega
  | wrreg dev reg data => trivial
  | rdburst dev reg count => trivial
  | ldbuf idx data =>
    have hidx := idx.isLt
    simp only [encode, toNat_commandWord, BitVec.toNat_ofNat]
    omega
  | scan => rfl
  | config => rfl
  | convert => rfl
  | emit => rfl
  | start => rfl

/-- Settles O7: the word is its command's encoding, and an encoding's fields are the operands. -/
theorem operandsAreUnsignedFields : Obligations.OperandsAreUnsignedFields := by
  intro w i h
  obtain ⟨rfl, -⟩ := acceptedWordIsItsOwnEncoding w i h
  cases i
  all_goals simp only [← toNat_fieldDev, ← toNat_fieldReg, ← toNat_fieldData, encode, fieldDev_commandWord,
    fieldReg_commandWord, fieldData_commandWord, and_self]

/-- Settles O8: these words are encodings, and an encoding decodes exactly when its operands are legal. -/
theorem operandRangesDecideLegality : Obligations.OperandRangesDecideLegality := by
  refine ⟨fun dev reg count => (exists_decode_encode_iff (.rdburst dev reg count)).trans ?_,
    fun idx data => (exists_decode_encode_iff (.ldbuf idx data)).trans ?_⟩
  · simp [Instr.wf, and_assoc]
  · simp [Instr.wf]

theorem encode_and_decode_of_eq {i : Instr} {w : Word} (hw : encode i = w) (hwf : i.wf = true) :
    encode i = w ∧ decode w = .ok i := ⟨hw, hw ▸ decodeOfEncodeIsIdentity i hwf⟩

/-- Settles O4: the seven words are encodings, so they decode by O1; the other three are evaluated. -/
theorem workedEncodingsDecode : Obligations.WorkedEncodingsDecode := by
  refine ⟨encode_and_decode_of_eq ?_ ?_, encode_and_decode_of_eq ?_ ?_, encode_and_decode_of_eq ?_ ?_,
    encode_and_decode_of_eq ?_ ?_, encode_and_decode_of_eq ?_ ?_, encode_and_decode_of_eq ?_ ?_,
    encode_and_decode_of_eq ?_ ?_, ⟨.reservedBits, ?_⟩, ⟨.operandRange, ?_⟩, ⟨.operandRange, ?_⟩⟩
  all_goals decide

end Sys2Proof

/-! ## The assembler's lines -/

namespace Sys2Proof.Machine

theorem AsmLine.assemble_eq_some_iff {b : Build} {l : AsmLine} {ws : List Word} :
    l.assemble b = some ws ↔ (∀ i ∈ l.expand b, i.wf = true) ∧ (l.expand b).map encode = ws := by
  simp [AsmLine.assemble]

/-- The words of legal commands decode to them, in order. -/
theorem map_decode_encode {is : List Instr} (h : ∀ i ∈ is, i.wf = true) :
    (is.map encode).map decode = is.map Except.ok := by
  rw [List.map_map]
  exact List.map_congr_left fun i hi => decodeOfEncodeIsIdentity i (h i hi)

/-- Settles O9. -/
theorem assembledLinesDecodeToTheirExpansion : Obligations.AssembledLinesDecodeToTheirExpansion := by
  refine ⟨fun _ _ => rfl, fun _ _ _ _ _ _ _ => rfl, fun _ _ => ⟨rfl, rfl, rfl⟩, fun b l => ⟨fun ws h => ?_, ?_⟩⟩
  · obtain ⟨hwf, rfl⟩ := AsmLine.assemble_eq_some_iff.mp h
    exact map_decode_encode hwf
  · simp [Option.isSome_iff_exists, AsmLine.assemble_eq_some_iff]

end Sys2Proof.Machine

/-! ## The issue step -/

namespace Sys2Proof.Machine

/-- The step of a host that writes a command word next (30_encoding R112). -/
theorem step_of_hostWrites {s : State} {w : Word} {rest : List Turn} (h : s.hostWrites w rest) :
    step s = hostCommand w (s.withTurns rest) := by
  obtain ⟨hturns, hfree⟩ := h
  rw [step_of_hostAccess hfree hturns]
  rfl

theorem hostCommand_of_ok {w : Word} {i : Instr} (h : decode w = .ok i) (s : State) :
    hostCommand w s = exec i (s.setCmdLast w) := by
  simp only [hostCommand, h]

theorem hostCommand_of_error {w : Word} {e : IllegalWord} (h : decode w = .error e) (s : State) :
    hostCommand w s = .next ((s.setCmdLast w).setCmdResult .illegalCommand) := by
  simp only [hostCommand, h]

/-- Settles O5. -/
theorem reservedOpIsIllegalCommand : Obligations.ReservedOpIsIllegalCommand := by
  intro w s rest hop hwrites
  rw [step_of_hostWrites hwrites, hostCommand_of_error (decode_of_reservedOp hop)]
  rfl

/-- Settles O10. -/
theorem stepRunsTheDecodedCommand : Obligations.StepRunsTheDecodedCommand := by
  intro s w rest i hwrites hdecode
  rw [step_of_hostWrites hwrites, hostCommand_of_ok hdecode]
  rfl

/-- Every command's meaning passes the issue step first (30_encoding R112). -/
theorem exec_eq_issue (i : Instr) : ∃ body : State → State, ∀ s, exec i s = issue i s body := by
  cases i
  all_goals exact ⟨_, fun _ => rfl⟩

theorem exec_of_illegal {i : Instr} (hwf : i.wf = false) (s : State) :
    exec i s = .next (s.setCmdResult .illegalCommand) := by
  obtain ⟨body, hexec⟩ := exec_eq_issue i
  rw [hexec, issue, if_neg (by simp [hwf])]

theorem exec_of_busy {i : Instr} {s : State} (hwf : i.wf = true) (hrun : s.run = true) :
    exec i s = .next (s.setCmdResult .busy) := by
  obtain ⟨body, hexec⟩ := exec_eq_issue i
  rw [hexec, issue, if_pos hwf, if_pos hrun]

/-- Settles O12: what the issue step does, for every command. -/
theorem everyCommandIsTurnedAwayAlike : Obligations.EveryCommandIsTurnedAwayAlike :=
  fun _ s => ⟨fun hwf => exec_of_illegal hwf s, exec_of_busy⟩

/-- Settles O60. -/
theorem resultCodesAreTheSpecs : Obligations.ResultCodesAreTheSpecs := by
  refine ⟨rfl, rfl, rfl, rfl, rfl, rfl, rfl, rfl, rfl, rfl, fun r => ?_⟩
  cases r <;> rfl

end Sys2Proof.Machine

/-! ## The bytes of a frame -/

namespace Sys2Proof.Machine

/-- Byte k of the residue of v modulo 2^m is byte k of v in m bits. -/
theorem ofInt_emod_div_eq_extractLsb' (m k : Nat) (v : Int) :
    BitVec.ofInt 8 (v % 2 ^ m / 2 ^ k) = (BitVec.ofInt m v).extractLsb' k 8 := by
  obtain ⟨u, hu⟩ := Int.eq_ofNat_of_zero_le (Int.emod_nonneg v (by positivity : (2 ^ m : Int) ≠ 0))
  have hdiv : (u : Int) / 2 ^ k = ((u / 2 ^ k : Nat) : Int) := by push_cast; rfl
  apply BitVec.eq_of_toNat_eq
  rw [hu, hdiv, BitVec.ofInt_natCast, BitVec.toNat_ofNat, BitVec.extractLsb'_toNat, BitVec.toNat_ofInt,
    Nat.shiftRight_eq_div_pow]
  push_cast
  rw [hu, Int.toNat_natCast]

/-- The bytes of a wrapped value are the bytes of the value in that width (00_scope R11): wrapping keeps the residue. -/
theorem leBytes_wrapTo (n : Nat) (v : Int) :
    leBytes n (wrapTo (8 * n) v) = (List.range n).map fun k => (BitVec.ofInt (8 * n) v).extractLsb' (8 * k) 8 := by
  have hwrap : wrapTo (8 * n) v % 2 ^ (8 * n) = v % 2 ^ (8 * n) := by
    unfold wrapTo
    exact_mod_cast Int.bmod_emod
  simp only [leBytes, hwrap, ofInt_emod_div_eq_extractLsb']

theorem axisField_count {b : Build} (h : b.mode = .count) (w : BitVec 16) :
    let c := BitVec.ofInt 16 (4 * decodeAxis 6 w)
    axisField b w = [c.extractLsb' 0 8, c.extractLsb' 8 8] := by
  simp only [axisField, h]
  exact leBytes_wrapTo 2 _

theorem axisField_physical {b : Build} (h : b.mode = .physical) (w : BitVec 16) :
    let p := BitVec.ofInt 32 (physValue b.physEval (decodeAxis 4 w))
    axisField b w = [p.extractLsb' 0 8, p.extractLsb' 8 8, p.extractLsb' 16 8, p.extractLsb' 24 8] := by
  simp only [axisField, h]
  exact leBytes_wrapTo 4 _

/-- Settles O30, field by field. -/
theorem framesHaveTheSpecifiedBytes : Obligations.FramesHaveTheSpecifiedBytes := by
  intro b raw
  refine ⟨fun hmode => ?_, fun hmode => ?_⟩
  · simp only [pack, axisField_count hmode]
    rfl
  · simp only [pack, axisField_physical hmode]
    rfl

end Sys2Proof.Machine

/-! ## The sequencer's turn issues at most one transaction -/

namespace Sys2Proof.Machine

/-- `t` has the bus bookkeeping of `s`: no transaction was issued between them. -/
structure State.SameBus (s t : State) : Prop where
  asked : t.asked = s.asked
  busLog : t.busLog = s.busLog
  hung : t.hung = s.hung

/-- Between `s` and `t` the agent issued exactly the transaction `txn`: BUS_LOG's one new entry, or the one the agent is
stuck in (10_state R52, 60_exceptions R305). -/
structure State.IssuedOne (s : State) (who : Agent) (txn : BusTxn) (t : State) : Prop where
  asked : t.asked = s.asked + 1
  completed : (t.hung = s.hung ∧ ∃ res data, t.busLog = s.busLog ++ [⟨txn, res, data⟩]) ∨
    (t.hung = some ⟨who, txn⟩ ∧ t.busLog = s.busLog)

/-- A transaction followed by register writes alone. -/
theorem issuedOne_transact_andThen {α : Type} {who : Agent} {txn : BusTxn} {s : State} {k : Reply → State → Progress α}
    (hk : ∀ r (u : State), u.SameBus (k r u).state) : s.IssuedOne who txn ((transact who txn s).andThen k).state := by
  have completes (r : Reply) (res : TxResult) (data : Option (List Byte))
      (h : transact who txn s = .done r (s.logTxn ⟨txn, res, data⟩)) :
      s.IssuedOne who txn ((transact who txn s).andThen k).state := by
    rw [h, Progress.andThen_done]
    obtain ⟨hasked, hlog, hhung⟩ := hk r (s.logTxn ⟨txn, res, data⟩)
    exact ⟨hasked, .inl ⟨hhung, res, data, hlog⟩⟩
  obtain ⟨d, -, h⟩ | ⟨-, h⟩ | ⟨-, h⟩ | ⟨-, h⟩ := transact_cases who txn s
  · exact completes _ _ _ h
  · exact completes _ _ _ h
  · exact completes _ _ _ h
  · rw [h]
    exact ⟨rfl, .inr ⟨rfl, rfl⟩⟩

theorem seqStatus_issuesOne (s : State) :
    s.IssuedOne .seq (.read s.build.devAddr s.build.regStatus 1) (seqStatus s) := by
  refine issuedOne_transact_andThen fun r u => ?_
  dsimp only [Progress.state_done]
  split
  · split <;> exact ⟨rfl, rfl, rfl⟩
  · exact ⟨rfl, rfl, rfl⟩

theorem seqEmit_issuesOne (s : State) :
    s.IssuedOne .seq (.read s.build.devAddr s.build.regOutBase sampleBytes) (seqEmit s) := by
  refine issuedOne_transact_andThen fun r u => ?_
  dsimp only [Progress.state_done]
  split <;> exact ⟨rfl, rfl, rfl⟩

/-- The transactions of the sequencer's turn: none, or the one read of its phase. -/
theorem seqTurn_sameBus_or_issuesOne (s : State) :
    s.SameBus (seqTurn s) ∨ ∃ txn, s.PhaseRead txn ∧ s.IssuedOne .seq txn (seqTurn s) := by
  have hold : s.SameBus s := ⟨rfl, rfl, rfl⟩
  unfold seqTurn
  split
  case isTrue => exact .inl hold
  case isFalse =>
    split
    case isFalse => exact .inl hold
    case isTrue =>
      cases hp : s.phase with
      | idle =>
        dsimp only
        split
        · exact .inl ⟨rfl, rfl, rfl⟩
        · exact .inl hold
      | reading => exact .inr ⟨_, .inl ⟨hp, rfl⟩, seqStatus_issuesOne s⟩
      | emitting => exact .inr ⟨_, .inr ⟨hp, rfl⟩, seqEmit_issuesOne s⟩

/-- A step whose turn is the sequencer's is that turn (10_state R30). -/
theorem step_of_seqNext {s : State} {rest : List Turn} (h : s.seqNext rest) :
    step s = .next (seqTurn (s.withTurns rest)) := by
  unfold step nextTurn
  obtain hturns | ⟨hturns, rfl⟩ := h
  · rw [hturns]
    rfl
  · have hsame : s.withTurns [] = s := by rw [← hturns]; rfl
    rw [hturns, hsame]

/-- Settles O43. -/
theorem sequencerIssuesAtMostOneRead : Obligations.SequencerIssuesAtMostOneRead := by
  intro s t rest hnext hstep
  rw [step_of_seqNext hnext] at hstep
  cases hstep
  obtain ⟨hasked, hlog, hhung⟩ | ⟨txn, hread, hasked, hdone⟩ := seqTurn_sameBus_or_issuesOne (s.withTurns rest)
  · exact .inl ⟨hasked, hlog, hhung⟩
  · obtain ⟨-, rfl⟩ | ⟨-, rfl⟩ := hread
    · exact .inr ⟨_, _, .inl ⟨rfl, rfl⟩, hasked, hdone⟩
    · exact .inr ⟨_, _, .inr ⟨rfl, rfl⟩, hasked, hdone⟩

end Sys2Proof.Machine

/-! ## The words of a command -/

namespace Sys2Proof

/-- A word that a row's mask and match accept decodes to what the row reads, if its operands are legal (30_encoding R110). -/
theorem decode_of_row {r : OpcodeRow} (hr : r ∈ opcodeMap) {w : Word} (h : w &&& r.mask = r.pattern)
    (hwf : (r.read w).wf = true) : decode w = .ok (r.read w) := by
  rw [decode_of_accepts hr (OpcodeRow.accepts_iff.mpr h), if_pos hwf]

end Sys2Proof

/-! ## Answered transactions

What a transaction does is a function of its answer: the two parts of the reply below, and the entry of BUS_LOG. -/

namespace Sys2Proof.Machine

/-- The bytes that the answer gives to the transaction's issuer (00_scope R13). -/
def replyBytes (t : BusTxn) : BusAnswer → List Byte
  | .served d => bytesOf t d
  | .noAck | .busError | .silent => []

/-- The bytes that BUS_LOG keeps of the answer (10_state R52). -/
def loggedData (t : BusTxn) : BusAnswer → Option (List Byte)
  | .served d => logData t d
  | .noAck | .busError | .silent => none

@[simp] theorem loggedData_probe (dev : DevAddr) (a : BusAnswer) : loggedData (.probe dev) a = none := by
  cases a <;> rfl

@[simp] theorem loggedData_write (dev : DevAddr) (reg : RegAddr) (b : Byte) (a : BusAnswer) :
    loggedData (.write dev reg b) a = none := by
  cases a <;> rfl

@[simp] theorem loggedData_read (dev : DevAddr) (reg : RegAddr) (n : Nat) (a : BusAnswer) :
    loggedData (.read dev reg n) a = dataOf n a := by
  cases a <;> rfl

theorem dataOf_of_failed {a : BusAnswer} {r : TxResult} (h : resultOf a = some r) (hr : r ≠ .success) (n : Nat) :
    dataOf n a = none := by
  cases a with
  | served d => cases h; exact absurd rfl hr
  | _ => rfl

theorem exists_resultOf {a : BusAnswer} (h : a ≠ .silent) : ∃ r, resultOf a = some r := by
  cases a with
  | silent => exact absurd rfl h
  | _ => exact ⟨_, rfl⟩

/-- An answer that is not silent where it is asked for has a result there. -/
theorem exists_resultOf_if {p : Prop} {a : BusAnswer} (h : p → a ≠ .silent) : ∃ r, p → resultOf a = some r := by
  by_cases hp : p
  · obtain ⟨r, hr⟩ := exists_resultOf (h hp)
    exact ⟨r, fun _ => hr⟩
  · exact ⟨.success, fun hp' => absurd hp' hp⟩

theorem take_one_toList (d : Vector Byte burstMax) : d.toList.take 1 = [d[0]] := by
  rw [List.take_one, List.head?_eq_getElem?]
  simp

/-- A transaction with an answer completes: its reply and its entry of BUS_LOG are those of the answer. -/
theorem transact_answered {who : Agent} {t : BusTxn} {s : State} {r : TxResult}
    (h : resultOf (s.nextAnswer t) = some r) :
    transact who t s =
      .done ⟨r, replyBytes t (s.nextAnswer t)⟩ (s.logTxn ⟨t, r, loggedData t (s.nextAnswer t)⟩) := by
  obtain ⟨d, ha, ht⟩ | ⟨ha, ht⟩ | ⟨ha, ht⟩ | ⟨ha, -⟩ := transact_cases who t s
  case inr.inr.inr => simp [ha, resultOf] at h
  all_goals
    rw [ha] at h ⊢
    cases h
    exact ht

/-! ### What the issue step runs

The bodies of the bus commands, which run with legal operands while RUN = 0 (30_encoding R112). -/

section
variable {s : State} (hrun : s.run = false)
include hrun

theorem exec_probe (dev : DevAddr) :
    exec (.probe dev) s =
      .next ((probeAddress dev s).andThen fun r u => .done () (u.setCmdResult (.ofTx r))).state := by
  rw [exec, execProbe, issue_run rfl hrun]

theorem exec_rdreg (dev : DevAddr) (reg : RegAddr) :
    exec (.rdreg dev reg) s =
      .next ((transact .host (.read dev reg 1) s).andThen fun r u =>
        .done () ((if r.res = .success then u.setRdata r.byte else u).setCmdResult (.ofTx r.res))).state := by
  rw [exec, execRdreg, issue_run rfl hrun]

theorem exec_wrreg (dev : DevAddr) (reg : RegAddr) (data : Byte) :
    exec (.wrreg dev reg data) s =
      .next ((transact .host (.write dev reg data) s).andThen fun r u =>
        .done () (u.setCmdResult (.ofTx r.res))).state := by
  rw [exec, execWrreg, issue_run rfl hrun]

theorem exec_rdburst {dev : DevAddr} {reg : RegAddr} {count : BitVec 8}
    (hwf : (Instr.rdburst dev reg count).wf = true) :
    exec (.rdburst dev reg count) s =
      .next ((transact .host (.read dev reg count.toNat) s).andThen fun r u =>
        .done () ((if r.res = .success then u.loadBuf r.bytes else u).setCmdResult (.ofTx r.res))).state := by
  rw [exec, execRdburst, issue_run hwf hrun]

theorem exec_scan :
    exec .scan s =
      .next ((scanFrom 128 0 false s).andThen fun err u =>
        .done () (u.setCmdResult (if err then .busError else .success))).state := by
  rw [exec, execScan, issue_run rfl hrun]

theorem exec_config : exec .config s = .next (configSteps s).state := by
  rw [exec, execConfig, issue_run rfl hrun]

end

/-! ### One transaction: PROBE, WRREG, RDREG and RDBURST -/

theorem probeAddress_answered {dev : DevAddr} {s : State} {r : TxResult}
    (h : resultOf (s.nextAnswer (.probe dev)) = some r) :
    probeAddress dev s = .done r ((s.logTxn ⟨.probe dev, r, none⟩).setPresent dev.toNat (r == .success)) := by
  rw [probeAddress, transact_answered h, loggedData_probe, Progress.andThen_done]

theorem probeAddress_silent {dev : DevAddr} {s : State} (h : s.nextAnswer (.probe dev) = .silent) :
    probeAddress dev s = .stuck (s.hangOn .host (.probe dev)) := by
  rw [probeAddress, transact_silent h, Progress.andThen_stuck]

/-- Settles O14. -/
theorem probeRecordsTheAnswer : Obligations.ProbeRecordsTheAnswer := by
  refine ⟨fun w hw => decode_of_row (opcodeMap.getElem_mem (n := 0) (by decide)) hw rfl, fun dev s hrun => ?_⟩
  rw [exec_probe hrun]
  refine ⟨fun r h => ?_, fun h => ?_⟩
  · rw [probeAddress_answered h, Progress.andThen_done, Progress.state_done]
    refine ⟨_, rfl, fun a => ?_, rfl⟩
    exact (presentBit_setBit s.present dev a _).trans (by cases r <;> rfl)
  · rw [probeAddress_silent h]
    rfl

/-- Settles O16. -/
theorem wrregReportsTheWrite : Obligations.WrregReportsTheWrite := by
  refine ⟨fun w hw => decode_of_row (opcodeMap.getElem_mem (n := 2) (by decide)) hw rfl, fun dev reg data s hrun => ?_⟩
  rw [exec_wrreg hrun]
  refine ⟨fun r h => ?_, fun h => ?_⟩
  · rw [transact_answered h, loggedData_write]
    rfl
  · rw [transact_silent h]
    rfl

/-- Settles O15. -/
theorem rdregLoadsRdataOnSuccess : Obligations.RdregLoadsRdataOnSuccess := by
  refine ⟨fun w hw => decode_of_row (opcodeMap.getElem_mem (n := 1) (by decide)) hw rfl, fun dev reg s hrun => ?_⟩
  rw [exec_rdreg hrun]
  refine ⟨fun data h => ?_, fun r h hr => ?_, fun h => ?_⟩
  · rw [transact_served h, logData, bytesOf, take_one_toList]
    rfl
  · rw [transact_answered h, loggedData_read, dataOf_of_failed h hr, Progress.andThen_done, if_neg hr]
    rfl
  · rw [transact_silent h]
    rfl

theorem wf_rdburst_iff {dev : DevAddr} {reg : RegAddr} {count : BitVec 8} :
    (Instr.rdburst dev reg count).wf = true ↔
      1 ≤ count.toNat ∧ count.toNat ≤ 32 ∧ reg.toNat + count.toNat ≤ 256 := by
  simp [Instr.wf, and_assoc]

/-- BUF after the first n bytes of a served read (40_bus_transactions R160). -/
theorem getElem_fillBuf_take (buf d : Vector Byte burstMax) (n : Nat) {k : Nat} (hk : k < burstMax) :
    (fillBuf buf (d.toList.take n))[k] = if k < n then d[k] else buf[k] := by
  rw [getElem_fillBuf, List.getD_eq_getElem?_getD, List.getElem?_take]
  split <;> simp [hk]

/-- Settles O17: an operand out of range is turned away by the issue step. -/
theorem rdburstFillsBufInOneTransaction : Obligations.RdburstFillsBufInOneTransaction := by
  refine ⟨fun w hw hlow hmax hrange => ?_, fun dev reg count s hbad => ?_, fun dev reg count s hwf hrun => ?_⟩
  · exact decode_of_row (opcodeMap.getElem_mem (n := 3) (by decide)) hw (wf_rdburst_iff.mpr ⟨hlow, hmax, hrange⟩)
  · refine exec_of_illegal (Bool.eq_false_iff.mpr fun hwf => ?_) s
    obtain ⟨hlow, hmax, hrange⟩ := wf_rdburst_iff.mp hwf
    omega
  · rw [exec_rdburst hrun hwf]
    refine ⟨fun data h => ?_, fun r h hr => ?_, fun h => ?_⟩
    · rw [transact_served h, Progress.andThen_done, if_pos rfl, Progress.state_done]
      refine ⟨_, rfl, fun k hk => ?_, rfl⟩
      exact getElem_fillBuf_take s.buf data count.toNat hk
    · rw [transact_answered h, loggedData_read, dataOf_of_failed h hr, Progress.andThen_done, if_neg hr]
      rfl
    · rw [transact_silent h]
      rfl

end Sys2Proof.Machine

/-! ## Transactions in a row: SCAN and CONFIG -/

namespace Sys2Proof.Machine

/-- Completed transactions one after another: their entries of BUS_LOG in order, one answer used by each. -/
def State.logTxns (es : List BusEntry) (s : State) : State :=
  { s with busLog := s.busLog ++ es, answers := s.answers.drop es.length, asked := s.asked + es.length }

theorem State.logTxns_nil (s : State) : s.logTxns [] = s := by
  simp [State.logTxns]

theorem State.logTxn_logTxns (es : List BusEntry) (e : BusEntry) (s : State) :
    (s.logTxns es).logTxn e = s.logTxns (es ++ [e]) := by
  simp [State.logTxns, State.logTxn, Nat.add_assoc]

/-- The next answer after some transactions is the answer to the transaction of that number. -/
theorem State.nextAnswer_logTxns (es : List BusEntry) (t : BusTxn) (s : State) :
    (s.logTxns es).nextAnswer t = s.answerAt es.length t := rfl

/-! ### SCAN -/

/-- PRESENT after k answered probes of SCAN. -/
def scanPresent (v : BitVec 128) (r : Nat → TxResult) : Nat → BitVec 128
  | 0 => v
  | k + 1 => setBit (scanPresent v r k) k (r k == .success)

/-- BUS_LOG's entries of k answered probes of SCAN. -/
def scanEntries (r : Nat → TxResult) (k : Nat) : List BusEntry :=
  (List.range k).map fun a => ⟨.probe (BitVec.ofNat 7 a), r a, none⟩

/-- The state after k answered probes of SCAN. -/
def State.scanned (s : State) (r : Nat → TxResult) (k : Nat) : State :=
  { s.logTxns (scanEntries r k) with present := scanPresent s.present r k }

@[simp] theorem length_scanEntries (r : Nat → TxResult) (k : Nat) : (scanEntries r k).length = k := by
  simp [scanEntries]

theorem getLsbD_scanPresent (v : BitVec 128) (r : Nat → TxResult) {k : Nat} (hk : k ≤ 128) (i : Nat) :
    (scanPresent v r k).getLsbD i = if i < k then decide (r i = .success) else v.getLsbD i := by
  induction k with
  | zero => rfl
  | succ k ih =>
    rw [scanPresent, getLsbD_setBit _ _ _ _ (by omega), ih (by omega)]
    rcases Nat.lt_trichotomy i k with h | rfl | h
    · simp [h, h.ne, h.le]
    · simp [beq_eq_decide]
    · simp [h.ne', h.not_gt, show ¬i < k + 1 by omega]

theorem State.scanned_zero (s : State) (r : Nat → TxResult) : s.scanned r 0 = s := s.logTxns_nil

theorem State.scanned_succ (s : State) (r : Nat → TxResult) (k : Nat) :
    ((s.scanned r k).logTxn ⟨.probe (BitVec.ofNat 7 k), r k, none⟩).setPresent k (r k == .success) =
      s.scanned r (k + 1) := by
  have hentries : scanEntries r (k + 1) = scanEntries r k ++ [⟨.probe (BitVec.ofNat 7 k), r k, none⟩] := by
    simp [scanEntries, List.range_succ]
  rw [State.scanned, State.scanned, hentries, ← State.logTxn_logTxns]
  rfl

theorem State.nextAnswer_scanned (s : State) (r : Nat → TxResult) (k : Nat) (t : BusTxn) :
    (s.scanned r k).nextAnswer t = s.answerAt k t :=
  (s.nextAnswer_logTxns (scanEntries r k) t).trans (by rw [length_scanEntries])

/-- The loop goes through answered probes one by one, whatever their results (40_bus_transactions R170). -/
theorem scanFrom_answered {s : State} {r : Nat → TxResult} (k left : Nat) (hk : k ≤ 128)
    (h : ∀ a < k, resultOf (s.answerAt a (.probe (BitVec.ofNat 7 a))) = some (r a)) :
    scanFrom (left + k) 0 false s =
      scanFrom left k ((List.range k).any fun a => r a == .busError) (s.scanned r k) := by
  induction k generalizing left with
  | zero => rw [s.scanned_zero]; rfl
  | succ k ih =>
    have hanswer : resultOf ((s.scanned r k).nextAnswer (.probe (BitVec.ofNat 7 k))) = some (r k) := by
      rw [s.nextAnswer_scanned]
      exact h k (by omega)
    have haddress : (BitVec.ofNat 7 k).toNat = k := by
      rw [BitVec.toNat_ofNat]
      omega
    calc scanFrom (left + (k + 1)) 0 false s
      _ = scanFrom (left + 1 + k) 0 false s := by rw [Nat.add_right_comm, Nat.add_assoc]
      _ = scanFrom (left + 1) k ((List.range k).any fun a => r a == .busError) (s.scanned r k) :=
        ih (left + 1) (by omega) fun a ha => h a (by omega)
      _ = scanFrom left (k + 1) ((List.range (k + 1)).any fun a => r a == .busError) (s.scanned r (k + 1)) := by
        rw [scanFrom, probeAddress_answered hanswer, Progress.andThen_done, haddress, s.scanned_succ,
          List.range_succ, List.any_append]
        simp

/-- SCAN with every probe answered. -/
theorem exec_scan_answered {s : State} {r : Nat → TxResult} (hrun : s.run = false)
    (h : ∀ a < 128, resultOf (s.answerAt a (.probe (BitVec.ofNat 7 a))) = some (r a)) :
    exec .scan s = .next ((s.scanned r 128).setCmdResult
      (if (List.range 128).any (fun a => r a == .busError) then .busError else .success)) := by
  rw [exec_scan hrun, scanFrom_answered (left := 0) 128 (by omega) h]
  rfl

/-- SCAN with an unanswered probe: the host is stuck in it, after the probes before it (60_exceptions R305). -/
theorem exec_scan_unanswered {s : State} {r : Nat → TxResult} {k : Nat} (hrun : s.run = false) (hk : k < 128)
    (h : ∀ a < k, resultOf (s.answerAt a (.probe (BitVec.ofNat 7 a))) = some (r a))
    (hsilent : s.answerAt k (.probe (BitVec.ofNat 7 k)) = .silent) :
    exec .scan s = .next ((s.scanned r k).hangOn .host (.probe (BitVec.ofNat 7 k))) := by
  have hsplit : 128 = 127 - k + 1 + k := by omega
  rw [exec_scan hrun, hsplit, scanFrom_answered k _ (by omega) h, scanFrom,
    probeAddress_silent ((s.nextAnswer_scanned r k _).trans hsilent)]
  rfl

/-- Settles O18. -/
theorem scanProbesEveryAddressInOrder : Obligations.ScanProbesEveryAddressInOrder := by
  refine ⟨decodeOfEncodeIsIdentity .scan rfl, fun s k hrun hk hanswered hsilent => ?_, fun s r hrun h => ?_⟩
  · choose r hr using fun a => exists_resultOf_if (hanswered a)
    exact ⟨_, exec_scan_unanswered hrun hk hr hsilent, rfl, rfl⟩
  · refine ⟨_, exec_scan_answered hrun h, fun a => ?_, ?_⟩
    · exact (getLsbD_scanPresent s.present r (by omega) a.toNat).trans (if_pos a.isLt)
    · simp only [State.scanned, State.logTxns, length_scanEntries]
      rfl

end Sys2Proof.Machine

/-! ### CONFIG -/

namespace Sys2Proof.Machine

theorem State.logTxn_eq_logTxns (e : BusEntry) (s : State) : s.logTxn e = s.logTxns [e] := by
  rw [← s.logTxns_nil, State.logTxn_logTxns, s.logTxns_nil, List.nil_append]

section
variable {α : Type} {who : Agent} {s : State} {es : List BusEntry} {t : BusTxn} {a : BusAnswer}

/-- The next transaction of a row, answered. -/
theorem andThen_transact_answered {r : TxResult} {k : Reply → State → Progress α} (ha : s.answerAt es.length t = a)
    (hr : resultOf a = some r) :
    (transact who t (s.logTxns es)).andThen k =
      k ⟨r, replyBytes t a⟩ (s.logTxns (es ++ [⟨t, r, loggedData t a⟩])) := by
  have hnext : (s.logTxns es).nextAnswer t = a := ha
  rw [← hnext] at hr ⊢
  rw [transact_answered hr, Progress.andThen_done, State.logTxn_logTxns]

/-- The next transaction of a row, unanswered. -/
theorem andThen_transact_silent {k : Reply → State → Progress α} (ha : s.answerAt es.length t = .silent) :
    (transact who t (s.logTxns es)).andThen k = .stuck ((s.logTxns es).hangOn who t) := by
  have hnext : (s.logTxns es).nextAnswer t = .silent := ha
  rw [transact_silent hnext, Progress.andThen_stuck]

end

theorem byte_reply_served (dev : DevAddr) (reg : RegAddr) (d : Vector Byte burstMax) (r : TxResult) :
    Reply.byte ⟨r, replyBytes (.read dev reg 1) (.served d)⟩ = d[0] := by
  rw [replyBytes, bytesOf, take_one_toList]
  rfl

/-- IDENT takes the reply's byte of an answered identity read exactly on Success (40_bus_transactions R145, R175). -/
theorem setIdent_of_reply {dev : DevAddr} {reg : RegAddr} {a : BusAnswer} {r : TxResult} (h : resultOf a = some r)
    (u : State) :
    (if r = .success then u.setIdent (Reply.byte ⟨r, replyBytes (.read dev reg 1) a⟩) else u) =
      u.setIdent (byteOr u.ident a) := by
  cases a with
  | served d => cases h; rw [if_pos rfl, byte_reply_served]; rfl
  | noAck | busError => cases h; rfl
  | silent => cases h

/-- Whether CONFIG writes a control register whose read got the answer `a` (40_bus_transactions R175). -/
def needsWrite (b : Build) (ref : Byte) (a : BusAnswer) : Bool :=
  decide (b.cfgPolicy = .always) || differsFrom ref a

/-- `writeControl`'s test of the reply is that test of the answer. -/
theorem writeControl_test_iff {b : Build} {dev : DevAddr} {reg : RegAddr} {ref : Byte} {a : BusAnswer} {r : TxResult}
    (h : resultOf a = some r) :
    (b.cfgPolicy = .always ∨ r ≠ .success ∨ Reply.byte ⟨r, replyBytes (.read dev reg 1) a⟩ ≠ ref) ↔
      needsWrite b ref a = true := by
  cases a with
  | served d => cases h; simp [needsWrite, differsFrom, byte_reply_served]
  | noAck | busError => cases h; simp [needsWrite, differsFrom]
  | silent => cases h

/-- BUS_LOG's entry for a write of CONFIG, if there was one. -/
def writeEntries (need : Bool) (dev : DevAddr) (reg : RegAddr) (ref : Byte) (w : TxResult) : List BusEntry :=
  if need then [⟨.write dev reg ref, w, none⟩] else []

theorem length_writeEntries (need : Bool) (dev : DevAddr) (reg : RegAddr) (ref : Byte) (w : TxResult) :
    (writeEntries need dev reg ref w).length = if need then 1 else 0 := by
  cases need <;> rfl

section
variable {α : Type} {b : Build} {dev : DevAddr} {reg reg' : RegAddr} {ref : Byte} {a : BusAnswer} {r : TxResult}
  {s : State} {es : List BusEntry} {k : Option TxResult → State → Progress α}

/-- CONFIG's write-if-different, with the write answered where there is one. -/
theorem andThen_writeControl_answered {w : TxResult} (hr : resultOf a = some r)
    (hw : needsWrite b ref a = true → resultOf (s.answerAt es.length (.write b.devAddr reg ref)) = some w) :
    (writeControl b reg ref ⟨r, replyBytes (.read dev reg' 1) a⟩ (s.logTxns es)).andThen k =
      k (if needsWrite b ref a then some w else none)
        (s.logTxns (es ++ writeEntries (needsWrite b ref a) b.devAddr reg ref w)) := by
  simp only [writeControl, writeControl_test_iff hr, writeEntries]
  split
  case isTrue hneed =>
    rw [andThen_transact_answered rfl (hw hneed), loggedData_write, Progress.andThen_done]
  case isFalse => rw [List.append_nil, Progress.andThen_done]

/-- CONFIG's write-if-different, with the write unanswered. -/
theorem andThen_writeControl_silent (hr : resultOf a = some r) (hneed : needsWrite b ref a = true)
    (hw : s.answerAt es.length (.write b.devAddr reg ref) = .silent) :
    (writeControl b reg ref ⟨r, replyBytes (.read dev reg' 1) a⟩ (s.logTxns es)).andThen k =
      .stuck ((s.logTxns es).hangOn .host (.write b.devAddr reg ref)) := by
  simp only [writeControl, writeControl_test_iff hr, if_pos hneed]
  rw [andThen_transact_silent hw, Progress.andThen_stuck]

end

/-- CONFIG after its three reads: the needed writes, CFG_WROTE and CMD_RESULT. -/
def configWrites (b : Build) (ri : TxResult) (ra rb : Reply) (s : State) : Progress Unit :=
  (writeControl b b.regCtrlA b.ctrlRefA ra s).andThen fun wa s =>
  (writeControl b b.regCtrlB b.ctrlRefB rb s).andThen fun wb s =>
  .done () ((s.setCfgWrote (wroteBits wa wb)).setCmdResult
    (.ofTx (firstFailure ([ri, ra.res, rb.res] ++ wa.toList ++ wb.toList))))

/-- CONFIG after its identity read: the reads of the control registers, and the rest. -/
def configControls (b : Build) (ri : TxResult) (s : State) : Progress Unit :=
  (transact .host (.read b.devAddr b.regCtrlA 1) s).andThen fun ra s =>
  (transact .host (.read b.devAddr b.regCtrlB 1) s).andThen fun rb s =>
  configWrites b ri ra rb s

theorem configSteps_eq (s : State) :
    configSteps s = (transact .host (.read s.build.devAddr s.build.regIdent 1) s).andThen fun ri u =>
      configControls s.build ri.res (if ri.res = .success then u.setIdent ri.byte else u) := rfl

/-- The answer to CONFIG's identity read. -/
def State.identAnswer (s : State) : BusAnswer := s.answerAt 0 (.read s.build.devAddr s.build.regIdent 1)

/-- The answer to CONFIG's read of control register A, the second transaction. -/
def State.ctrlAAnswer (s : State) : BusAnswer := s.answerAt 1 (.read s.build.devAddr s.build.regCtrlA 1)

/-- The answer to CONFIG's read of control register B, the third transaction. -/
def State.ctrlBAnswer (s : State) : BusAnswer := s.answerAt 2 (.read s.build.devAddr s.build.regCtrlB 1)

/-- Whether CONFIG writes control register A. -/
def State.needsA (s : State) : Bool := needsWrite s.build s.build.ctrlRefA s.ctrlAAnswer

/-- Whether CONFIG writes control register B. -/
def State.needsB (s : State) : Bool := needsWrite s.build s.build.ctrlRefB s.ctrlBAnswer

/-- The answer to CONFIG's write of control register A. -/
def State.writeAAnswer (s : State) : BusAnswer :=
  s.answerAt 3 (.write s.build.devAddr s.build.regCtrlA s.build.ctrlRefA)

/-- The answer to CONFIG's write of control register B, which comes after A's if there is one. -/
def State.writeBAnswer (s : State) : BusAnswer :=
  s.answerAt (3 + if s.needsA then 1 else 0) (.write s.build.devAddr s.build.regCtrlB s.build.ctrlRefB)

/-- BUS_LOG's entry for CONFIG's identity read with result `r`. -/
def State.identEntry (s : State) (r : TxResult) : BusEntry :=
  ⟨.read s.build.devAddr s.build.regIdent 1, r, dataOf 1 s.identAnswer⟩

/-- BUS_LOG's entry for CONFIG's read of control register A with result `r`. -/
def State.ctrlAEntry (s : State) (r : TxResult) : BusEntry :=
  ⟨.read s.build.devAddr s.build.regCtrlA 1, r, dataOf 1 s.ctrlAAnswer⟩

/-- BUS_LOG's entry for CONFIG's read of control register B with result `r`. -/
def State.ctrlBEntry (s : State) (r : TxResult) : BusEntry :=
  ⟨.read s.build.devAddr s.build.regCtrlB 1, r, dataOf 1 s.ctrlBAnswer⟩

/-- BUS_LOG's entry for CONFIG's write of control register A with result `w`, if CONFIG needs it. -/
def State.writeAEntries (s : State) (w : TxResult) : List BusEntry :=
  writeEntries s.needsA s.build.devAddr s.build.regCtrlA s.build.ctrlRefA w

/-- BUS_LOG's entry for CONFIG's write of control register B with result `w`, if CONFIG needs it. -/
def State.writeBEntries (s : State) (w : TxResult) : List BusEntry :=
  writeEntries s.needsB s.build.devAddr s.build.regCtrlB s.build.ctrlRefB w

/-- The state after some transactions of CONFIG, IDENT as an answered identity read leaves it (40_bus_transactions R175). -/
def State.configured (s : State) (es : List BusEntry) : State :=
  (s.setIdent (byteOr s.ident s.identAnswer)).logTxns es

theorem configSteps_silentIdent {s : State} (h : s.identAnswer = .silent) :
    configSteps s = .stuck (s.hangOn .host (.read s.build.devAddr s.build.regIdent 1)) := by
  rw [configSteps_eq, transact_silent h, Progress.andThen_stuck]

section
variable {s : State} {ri : TxResult} (hi : resultOf s.identAnswer = some ri)
include hi

theorem configSteps_of_ident : configSteps s = configControls s.build ri (s.configured [s.identEntry ri]) := by
  have hnext : resultOf (s.nextAnswer (.read s.build.devAddr s.build.regIdent 1)) = some ri := hi
  rw [configSteps_eq, transact_answered hnext, Progress.andThen_done, loggedData_read, setIdent_of_reply hnext,
    State.logTxn_eq_logTxns]
  rfl

theorem configSteps_silentA (h : s.ctrlAAnswer = .silent) :
    configSteps s = .stuck ((s.configured [s.identEntry ri]).hangOn .host
      (.read s.build.devAddr s.build.regCtrlA 1)) := by
  rw [configSteps_of_ident hi, configControls, State.configured, andThen_transact_silent ?_]
  exact h

variable {ra : TxResult} (ha : resultOf s.ctrlAAnswer = some ra)
include ha

theorem configSteps_silentB (h : s.ctrlBAnswer = .silent) :
    configSteps s = .stuck ((s.configured [s.identEntry ri, s.ctrlAEntry ra]).hangOn .host
      (.read s.build.devAddr s.build.regCtrlB 1)) := by
  rw [configSteps_of_ident hi, configControls, State.configured, andThen_transact_answered ?_ ha,
    andThen_transact_silent ?_]
  · rfl
  · exact h
  · rfl

variable {rb : TxResult} (hb : resultOf s.ctrlBAnswer = some rb)
include hb

/-- CONFIG with its three reads answered is left with its writes. -/
theorem configSteps_of_reads :
    configSteps s =
      configWrites s.build ri
        ⟨ra, replyBytes (.read s.build.devAddr s.build.regCtrlA 1) s.ctrlAAnswer⟩
        ⟨rb, replyBytes (.read s.build.devAddr s.build.regCtrlB 1) s.ctrlBAnswer⟩
        (s.configured [s.identEntry ri, s.ctrlAEntry ra, s.ctrlBEntry rb]) := by
  rw [configSteps_of_ident hi, configControls, State.configured, andThen_transact_answered ?_ ha,
    andThen_transact_answered ?_ hb, loggedData_read, loggedData_read]
  all_goals rfl

theorem configSteps_silentWriteA (hneed : s.needsA = true) (h : s.writeAAnswer = .silent) :
    configSteps s = .stuck ((s.configured [s.identEntry ri, s.ctrlAEntry ra, s.ctrlBEntry rb]).hangOn .host
      (.write s.build.devAddr s.build.regCtrlA s.build.ctrlRefA)) := by
  rw [configSteps_of_reads hi ha hb, configWrites, State.configured, andThen_writeControl_silent ha hneed ?_]
  exact h

variable {wa : TxResult} (hwa : s.needsA = true → resultOf s.writeAAnswer = some wa)
include hwa

theorem configSteps_silentWriteB (hneed : s.needsB = true) (h : s.writeBAnswer = .silent) :
    configSteps s = .stuck ((s.configured
      ([s.identEntry ri, s.ctrlAEntry ra, s.ctrlBEntry rb] ++ s.writeAEntries wa)).hangOn .host
      (.write s.build.devAddr s.build.regCtrlB s.build.ctrlRefB)) := by
  rw [configSteps_of_reads hi ha hb, configWrites, State.configured, andThen_writeControl_answered ha ?_,
    andThen_writeControl_silent hb hneed ?_]
  · rfl
  · rw [List.length_append, length_writeEntries]
    exact h
  · exact hwa

variable {wb : TxResult} (hwb : s.needsB = true → resultOf s.writeBAnswer = some wb)
include hwb

/-- CONFIG with every transaction answered. -/
theorem configSteps_answered :
    configSteps s = .done () (((s.configured
      ([s.identEntry ri, s.ctrlAEntry ra, s.ctrlBEntry rb] ++ s.writeAEntries wa ++ s.writeBEntries wb)).setCfgWrote
      (wroteBits (if s.needsA then some wa else none) (if s.needsB then some wb else none))).setCmdResult
      (.ofTx (firstFailure ([ri, ra, rb] ++ (if s.needsA then some wa else none).toList ++
        (if s.needsB then some wb else none).toList)))) := by
  rw [configSteps_of_reads hi ha hb, configWrites, State.configured, andThen_writeControl_answered ha ?_,
    andThen_writeControl_answered hb ?_]
  · rfl
  · rw [List.length_append, length_writeEntries]
    exact hwb
  · exact hwa

end

theorem firstFailure_cons (r : TxResult) (rs : List TxResult) :
    firstFailure (r :: rs) = if r ≠ .success then r else firstFailure rs := by
  unfold firstFailure
  rw [List.find?_cons]
  split <;> simp_all

/-- The first failure among CONFIG's writes, none, one or two of them. -/
theorem firstFailure_writes (wa wb : TxResult) (needA needB : Bool) :
    firstFailure ((if needA then some wa else none).toList ++ (if needB then some wb else none).toList) =
      if needA = true ∧ wa ≠ .success then wa else if needB = true then wb else .success := by
  have hnil : firstFailure [] = .success := rfl
  have hone (r : TxResult) : firstFailure [r] = r := by cases r <;> rfl
  cases needA with
  | false =>
    cases needB with
    | false => simp [hnil]
    | true => simp [hone]
  | true =>
    cases needB with
    | false => simp [firstFailure_cons, hnil]
    | true => simp [firstFailure_cons wa, hone]

/-- CONFIG's combined result, written out: the first failure, in order (40_bus_transactions R175). -/
theorem firstFailure_config (ri ra rb wa wb : TxResult) (needA needB : Bool) :
    firstFailure ([ri, ra, rb] ++ (if needA then some wa else none).toList ++
      (if needB then some wb else none).toList) =
    if ri ≠ .success then ri else if ra ≠ .success then ra else if rb ≠ .success then rb
    else if needA = true ∧ wa ≠ .success then wa else if needB = true then wb else .success := by
  rw [← firstFailure_writes, List.append_assoc]
  simp only [List.cons_append, List.nil_append, firstFailure_cons]

theorem getLsbD_wroteBits_zero (wa wb : Option TxResult) :
    (wroteBits wa wb).getLsbD 0 = (wa == some .success) := by
  rw [wroteBits, BitVec.getLsbD_append]
  simp

theorem getLsbD_wroteBits_one (wa wb : Option TxResult) :
    (wroteBits wa wb).getLsbD 1 = (wb == some .success) := by
  rw [wroteBits, BitVec.getLsbD_append]
  simp

theorem wroteOption_eq_success (need : Bool) (w : TxResult) :
    ((if need then some w else none) == some .success) = (need && decide (w = .success)) := by
  cases need <;> simp [beq_eq_decide]

theorem State.configured_all (s : State) (es : List BusEntry) (wa wb : TxResult) :
    s.configured (es ++ s.writeAEntries wa ++ s.writeBEntries wb) =
      { s with
        ident := byteOr s.ident s.identAnswer
        busLog := s.busLog ++ es ++ s.writeAEntries wa ++ s.writeBEntries wb
        answers := s.answers.drop (es.length + (if s.needsA then 1 else 0) + if s.needsB then 1 else 0)
        asked := s.asked + (es.length + (if s.needsA then 1 else 0) + if s.needsB then 1 else 0) } := by
  have hlength : (es ++ s.writeAEntries wa ++ s.writeBEntries wb).length =
      es.length + (if s.needsA then 1 else 0) + if s.needsB then 1 else 0 := by
    simp only [List.length_append, State.writeAEntries, State.writeBEntries, length_writeEntries]
  rw [State.configured, State.logTxns, hlength, ← List.append_assoc, ← List.append_assoc]
  rfl

/-- The transaction CONFIG is stuck in, if one goes unanswered: the first such one in its order. -/
def State.configUnanswered (s : State) : Option BusTxn :=
  if s.identAnswer = .silent then some (.read s.build.devAddr s.build.regIdent 1)
  else if s.ctrlAAnswer = .silent then some (.read s.build.devAddr s.build.regCtrlA 1)
  else if s.ctrlBAnswer = .silent then some (.read s.build.devAddr s.build.regCtrlB 1)
  else if s.needsA = true ∧ s.writeAAnswer = .silent then
    some (.write s.build.devAddr s.build.regCtrlA s.build.ctrlRefA)
  else if s.needsB = true ∧ s.writeBAnswer = .silent then
    some (.write s.build.devAddr s.build.regCtrlB s.build.ctrlRefB)
  else none

/-- CONFIG gets stuck in its first unanswered transaction, with CFG_WROTE and CMD_RESULT not written. -/
theorem configSteps_unanswered {s : State} {txn : BusTxn} (h : s.configUnanswered = some txn) :
    ∃ u : State, configSteps s = .stuck (u.hangOn .host txn) ∧ u.cmdResult = s.cmdResult ∧ u.cfgWrote = s.cfgWrote := by
  unfold State.configUnanswered at h
  split at h
  case isTrue hsilent =>
    cases h
    exact ⟨_, configSteps_silentIdent hsilent, rfl, rfl⟩
  case isFalse hident =>
    obtain ⟨ri, hi⟩ := exists_resultOf hident
    split at h
    case isTrue hsilent =>
      cases h
      exact ⟨_, configSteps_silentA hi hsilent, rfl, rfl⟩
    case isFalse hctrlA =>
      obtain ⟨ra, ha⟩ := exists_resultOf hctrlA
      split at h
      case isTrue hsilent =>
        cases h
        exact ⟨_, configSteps_silentB hi ha hsilent, rfl, rfl⟩
      case isFalse hctrlB =>
        obtain ⟨rb, hb⟩ := exists_resultOf hctrlB
        split at h
        case isTrue hsilent =>
          cases h
          exact ⟨_, configSteps_silentWriteA hi ha hb hsilent.1 hsilent.2, rfl, rfl⟩
        case isFalse hwriteA =>
          obtain ⟨wa, hwa⟩ := exists_resultOf_if fun hneed hsilent => hwriteA ⟨hneed, hsilent⟩
          split at h
          case isTrue hsilent =>
            cases h
            exact ⟨_, configSteps_silentWriteB hi ha hb hwa hsilent.1 hsilent.2, rfl, rfl⟩
          case isFalse => cases h

/-- Settles O20: the two forms of CONFIG's run, read off field by field. -/
theorem configWritesWhatDiffers : Obligations.ConfigWritesWhatDiffers := by
  refine ⟨decodeOfEncodeIsIdentity .config rfl, fun s hrun => ⟨fun txn h => ?_, ?_⟩⟩
  · obtain ⟨u, hstuck, hresult, hwrote⟩ := configSteps_unanswered (s := s) h
    rw [exec_config hrun, hstuck]
    exact ⟨_, rfl, rfl, hresult, hwrote⟩
  · intro ri ra rb wa wb hi ha hb hwa hwb
    rw [exec_config hrun, configSteps_answered hi ha hb hwa hwb, firstFailure_config]
    refine ⟨_, rfl, ?_, ?_, ?_⟩
    · exact (getLsbD_wroteBits_zero _ _).trans (wroteOption_eq_success _ _)
    · exact (getLsbD_wroteBits_one _ _).trans (wroteOption_eq_success _ _)
    · rw [s.configured_all]
      rfl

end Sys2Proof.Machine

/-! ## The status tests -/

namespace Sys2Proof.Machine

theorem getLsbD_eq_true_iff_div_mod {n : Nat} (v : BitVec n) (i : Nat) :
    v.getLsbD i = true ↔ v.toNat / 2 ^ i % 2 = 1 := by
  rw [← BitVec.testBit_toNat, Nat.testBit_eq_decide_div_mod_eq, decide_eq_true_iff]

/-- Bit 3 has weight 8 (41_sensor_register_map R200). -/
theorem isNewDataAvailable_iff (s : Byte) : isNewDataAvailable s = true ↔ s.toNat / 8 % 2 = 1 :=
  getLsbD_eq_true_iff_div_mod s 3

/-- Bit 7 has weight 128 (41_sensor_register_map R201). -/
theorem isDataOverrun_iff (s : Byte) : isDataOverrun s = true ↔ s.toNat / 128 % 2 = 1 :=
  getLsbD_eq_true_iff_div_mod s 7

/-- Settles O33: one bit of the byte for each test; the spec's example bytes are evaluated. -/
theorem statusTestsReadOneBit : Obligations.StatusTestsReadOneBit := fun s =>
  ⟨isNewDataAvailable_iff s, isDataOverrun_iff s, by decide⟩

end Sys2Proof.Machine

/-! ## What a step sends -/

namespace Sys2Proof.Machine

/-- What the block has sent: the bytes of OUT, and FRAME_COUNT. -/
def State.sent (s : State) : List Byte × BitVec 32 := (s.out, s.frameCount)

/-- From `s` to `t` nothing was sent, or exactly one whole frame (42_sampling_scheduler R233). -/
def State.SendsAtMostOne (s t : State) : Prop :=
  t.sent = s.sent ∨ ∃ f, frameShape s.build.mode f ∧ t.sent = (s.out ++ f, s.frameCount + 1#32)

theorem sendsAtMostOne_emitFrame {s : State} (h : frameShape s.build.mode s.frame) : s.SendsAtMostOne s.emitFrame := by
  rw [emitFrame_of_length s h.1]
  exact .inr ⟨s.frame, h, rfl⟩

theorem SeqStep.sendsAtMostOne {s t : State} (h : SeqStep s t) : s.SendsAtMostOne t := by
  cases h with
  | @emit e d => exact sendsAtMostOne_emitFrame (s := ((s.seqLogged e).loadBuf d).convert) (frameShape_pack _ _)
  | _ => exact .inl rfl

/-! ### Among the commands, only EMIT sends -/

theorem sent_andThen {α β : Type} {x : List Byte × BitVec 32} {p : Progress α} {k : α → State → Progress β}
    (hp : p.state.sent = x) (hk : ∀ a u, u.sent = x → (k a u).state.sent = x) : (p.andThen k).state.sent = x := by
  cases p with
  | done a u => exact hk a u hp
  | stuck u => exact hp

theorem sent_transact (who : Agent) (txn : BusTxn) (s : State) : (transact who txn s).state.sent = s.sent := by
  obtain ⟨d, -, h⟩ | ⟨-, h⟩ | ⟨-, h⟩ | ⟨-, h⟩ := transact_cases who txn s
  all_goals
    rw [h]
    rfl

/-- A transaction, and then a part that sends nothing. -/
theorem sent_transact_andThen {α : Type} {who : Agent} {txn : BusTxn} {s : State} {k : Reply → State → Progress α}
    (hk : ∀ r u, (k r u).state.sent = u.sent) : ((transact who txn s).andThen k).state.sent = s.sent :=
  sent_andThen (sent_transact who txn s) fun r u hu => (hk r u).trans hu

theorem sent_probeAddress (dev : DevAddr) (s : State) : (probeAddress dev s).state.sent = s.sent :=
  sent_transact_andThen fun _ _ => rfl

theorem sent_scanFrom (left a : Nat) (err : Bool) (s : State) : (scanFrom left a err s).state.sent = s.sent := by
  induction left generalizing a err s with
  | zero => rfl
  | succ left ih => exact sent_andThen (sent_probeAddress _ s) fun r u hu => (ih _ _ u).trans hu

theorem sent_writeControl (b : Build) (reg : RegAddr) (ref : Byte) (seen : Reply) (s : State) :
    (writeControl b reg ref seen s).state.sent = s.sent := by
  unfold writeControl
  split
  · exact sent_transact_andThen fun _ _ => rfl
  · rfl

theorem sent_configSteps (s : State) : (configSteps s).state.sent = s.sent := by
  refine sent_transact_andThen fun ri u => ?_
  have hident : State.sent (if ri.res = .success then u.setIdent ri.byte else u) = u.sent := by split <;> rfl
  refine (sent_transact_andThen fun ra u => ?_).trans hident
  refine sent_transact_andThen fun rb u => ?_
  refine sent_andThen (sent_writeControl _ _ _ _ u) fun wa v hv => ?_
  exact sent_andThen ((sent_writeControl _ _ _ _ v).trans hv) fun wb w hw => hw

/-- Every command's body sends nothing, or, EMIT's, what FRAME holds. -/
theorem exec_eq_issue_sent (i : Instr) :
    ∃ body : State → State, (∀ s, exec i s = issue i s body) ∧
      ∀ s, (body s).sent = s.sent ∨ (body s).sent = s.emitFrame.sent := by
  cases i
  all_goals refine ⟨_, fun _ => rfl, fun s => ?_⟩
  case emit => exact .inr rfl
  case ldbuf | convert | start => exact .inl rfl
  case probe => exact .inl (sent_andThen (sent_probeAddress _ s) fun _ _ hu => hu)
  case wrreg => exact .inl (sent_transact_andThen fun _ _ => rfl)
  case rdreg | rdburst => exact .inl (sent_transact_andThen fun r u => by split <;> rfl)
  case scan => exact .inl (sent_andThen (sent_scanFrom _ _ _ s) fun _ _ hu => hu)
  case config => exact .inl (sent_configSteps s)

theorem sent_of_exec {i : Instr} {s t : State} (h : exec i s = .next t) :
    t.sent = s.sent ∨ t.sent = s.emitFrame.sent := by
  obtain ⟨body, hexec, hbody⟩ := exec_eq_issue_sent i
  rw [hexec] at h
  obtain ⟨-, hi⟩ | ⟨-, -, hi⟩ | ⟨-, -, hi⟩ := issue_cases i s body
  all_goals
    rw [hi] at h
    cases h
  · exact .inl rfl
  · exact .inl rfl
  · exact hbody s

theorem sent_of_hostTurn {a : HostAccess} {s t : State} (h : hostTurn a s = .next t) :
    t.sent = s.sent ∨ t.sent = s.emitFrame.sent := by
  obtain rfl | ⟨-, h⟩ := hostTurn_cases h
  · exact .inl rfl
  unfold hostAccess at h
  split at h
  case isFalse => cases h
  case isTrue =>
    cases a with
    | read offset width => cases h; exact .inl rfl
    | write offset width w =>
      dsimp only at h
      split at h
      case isFalse => cases h; exact .inl rfl
      case isTrue =>
        cases hdecode : decode w with
        | ok i =>
          rw [hostCommand_of_ok hdecode] at h
          have hsent := sent_of_exec h
          exact hsent
        | error e =>
          rw [hostCommand_of_error hdecode] at h
          cases h
          exact .inl rfl

/-- A step sends nothing or one whole frame: the sequencer the one it packs, the host, by EMIT, what FRAME holds. -/
theorem step_sendsAtMostOne {s t : State} (hframe : frameShape s.build.mode s.frame) (h : step s = .next t) :
    s.SendsAtMostOne t := by
  obtain ⟨rest, -, rfl⟩ | ⟨rest, -, h⟩ | ⟨a, rest, -, h⟩ := step_cases h
  · exact .inl rfl
  · exact h.sendsAtMostOne
  · obtain hsent | hsent := sent_of_hostTurn h
    · exact .inl hsent
    · have hone := sendsAtMostOne_emitFrame (s := s.withTurns rest) hframe
      rwa [State.SendsAtMostOne, ← hsent] at hone

/-- Settles O46: OUT and FRAME_COUNT are kept, or one frame is appended and counted. -/
theorem outStaysAConcatenationOfWholeFrames : Obligations.OutStaysAConcatenationOfWholeFrames := by
  intro s t n hframe hout hcount hstep
  have hbuild : t.build = s.build := (build_stepClosed s.build).step hstep rfl
  rw [hbuild]
  obtain hsent | ⟨f, hf, hsent⟩ := step_sendsAtMostOne hframe hstep
  · obtain ⟨hout', hcount'⟩ := Prod.mk.inj hsent
    exact ⟨n, .inl rfl, hout' ▸ hout, hcount'.trans hcount, fun _ => hout'⟩
  · obtain ⟨hout', hcount'⟩ := Prod.mk.inj hsent
    refine ⟨n + 1, .inr rfl, hout' ▸ hout.append hf, ?_, by omega⟩
    rw [hcount', hcount, BitVec.ofNat_add]

/-! ## RUN, START and the tick -/

theorem run_stepClosed : StepClosed fun s => s.run = true where
  write _ _ hw h := by
    cases hw with
    | startRun => rfl
    | _ => exact h
  hang _ _ _ h := h
  turns _ _ h := h
  tick _ h := h
  seq _ _ ht h := by cases ht <;> exact h

/-- Settles O49. -/
theorem noStepClearsRun : Obligations.NoStepClearsRun := fun _ _ ht h => run_stepClosed.step ht h

/-- Settles O25: START passes the issue step as every command does. -/
theorem startSetsRun : Obligations.StartSetsRun := by
  refine ⟨decodeOfEncodeIsIdentity .start rfl, fun s => ⟨fun hrun => ?_, exec_of_busy rfl⟩⟩
  rw [exec, execStart, issue_run rfl hrun]
  rfl

/-- A step whose turn is the tick's is the tick (10_state R30). -/
theorem step_of_tick {s : State} {rest : List Turn} (h : s.turns = .tick :: rest) :
    step s = .next (tick (s.withTurns rest)) := by
  simp only [step, nextTurn, h]
  rfl

/-- Settles O34. -/
theorem tickOnlySetsReady : Obligations.TickOnlySetsReady := fun _ _ h => step_of_tick h

end Sys2Proof.Machine

/-! ## The sequencer's transitions

What the sequencer's turn does in each phase (42_sampling_scheduler R223 to R227), for every answer to its read. -/

namespace Sys2Proof.Machine

/-- A step of the sampling cycle with its one read: SEQ_RESULT is written, and `served` goes on with a successful
reply; a failed one ends the cycle (42_sampling_scheduler R225, R226). -/
def seqRead (txn : BusTxn) (served : Reply → State → State) (s : State) : State :=
  ((transact .seq txn s).andThen fun r u =>
    .done () <|
      if r.res = .success then served r (u.setSeqResult r.res) else (u.setSeqResult r.res).abandonCycle).state

theorem seqRead_served {txn : BusTxn} {served : Reply → State → State} {s : State} {d : Vector Byte burstMax}
    (h : s.nextAnswer txn = .served d) :
    seqRead txn served s = served ⟨.success, bytesOf txn d⟩ (s.seqLogged ⟨txn, .success, logData txn d⟩) := by
  rw [seqRead, transact_served h, Progress.andThen_done, if_pos rfl]
  rfl

theorem loggedData_of_failed {a : BusAnswer} {r : TxResult} (h : resultOf a = some r) (hr : r ≠ .success)
    (txn : BusTxn) : loggedData txn a = none := by
  cases a with
  | served d => cases h; exact absurd rfl hr
  | _ => rfl

theorem seqRead_failed {txn : BusTxn} {served : Reply → State → State} {s : State} {r : TxResult}
    (h : resultOf (s.nextAnswer txn) = some r) (hr : r ≠ .success) :
    seqRead txn served s = (s.seqLogged ⟨txn, r, none⟩).abandonCycle := by
  rw [seqRead, transact_answered h, loggedData_of_failed h hr, Progress.andThen_done, if_neg hr]
  rfl

theorem seqRead_silent {txn : BusTxn} {served : Reply → State → State} {s : State} (h : s.nextAnswer txn = .silent) :
    seqRead txn served s = s.hangOn .seq txn := by
  rw [seqRead, transact_silent h]
  rfl

/-- The status read of the build (42_sampling_scheduler R225). -/
def State.statusRead (s : State) : BusTxn := .read s.build.devAddr s.build.regStatus 1

/-- The sample burst of the build (42_sampling_scheduler R226). -/
def State.sampleBurst (s : State) : BusTxn := .read s.build.devAddr s.build.regOutBase sampleBytes

/-- What SEQ_STATUS does with a served status read: the status byte decides (R225). -/
def afterStatus (r : Reply) (u : State) : State :=
  if isNewDataAvailable r.byte then (u.setLastStatus r.byte).setPhase .emitting
  else ((u.setLastStatus r.byte).setReady false).setPhase .idle

/-- What SEQ_EMIT does with a served burst: the sample is packed and sent (R226). -/
def afterBurst (r : Reply) (u : State) : State :=
  (((u.loadBuf r.bytes).convert.emitFrame).setReady false).setPhase .idle

theorem seqStatus_eq (s : State) : seqStatus s = seqRead s.statusRead afterStatus s := rfl

theorem seqEmit_eq (s : State) : seqEmit s = seqRead s.sampleBurst afterBurst s := rfl

/-! ### The status read -/

theorem seqStatus_served {s : State} {d : Vector Byte burstMax} (h : s.nextAnswer s.statusRead = .served d) :
    seqStatus s =
      afterStatus ⟨.success, [d[0]]⟩ (s.seqLogged ⟨s.statusRead, .success, some [d[0]]⟩) := by
  have hbytes : bytesOf s.statusRead d = [d[0]] := take_one_toList d
  have hlog : logData s.statusRead d = some [d[0]] := congrArg some hbytes
  rw [seqStatus_eq, seqRead_served h, hbytes, hlog]

/-- The state that SEQ_STATUS leaves after the status byte `b` with new data (R225). -/
def State.dataFound (b : Byte) (s : State) : State :=
  ((s.seqLogged ⟨s.statusRead, .success, some [b]⟩).setLastStatus b).setPhase .emitting

theorem seqStatus_newData {s : State} {d : Vector Byte burstMax} (h : s.nextAnswer s.statusRead = .served d)
    (hnew : d[0].getLsbD 3 = true) : seqStatus s = s.dataFound d[0] := by
  rw [seqStatus_served h]
  exact if_pos hnew

theorem seqStatus_noData {s : State} {d : Vector Byte burstMax} (h : s.nextAnswer s.statusRead = .served d)
    (hnone : d[0].getLsbD 3 = false) :
    seqStatus s =
      (((s.seqLogged ⟨s.statusRead, .success, some [d[0]]⟩).setLastStatus d[0]).setReady false).setPhase .idle := by
  rw [seqStatus_served h]
  exact if_neg (Bool.eq_false_iff.mp hnone)

theorem seqStatus_failed {s : State} {r : TxResult} (h : resultOf (s.nextAnswer s.statusRead) = some r)
    (hr : r ≠ .success) : seqStatus s = (s.seqLogged ⟨s.statusRead, r, none⟩).abandonCycle :=
  (seqStatus_eq s).trans (seqRead_failed h hr)

theorem seqStatus_silent {s : State} (h : s.nextAnswer s.statusRead = .silent) :
    seqStatus s = s.hangOn .seq s.statusRead :=
  (seqStatus_eq s).trans (seqRead_silent h)

/-! ### The sample burst -/

/-- A packed frame is sent whole. -/
theorem convert_emitFrame (s : State) :
    s.convert.emitFrame = (s.convert.sink (pack s.build (rawSample s.buf))).countFrame :=
  emitFrame_of_length s.convert (pack_length _ _)

/-- The sample in BUF after a served burst is the burst's six bytes. -/
theorem rawSample_fillBuf_take (buf d : Vector Byte burstMax) :
    rawSample (fillBuf buf (d.toList.take sampleBytes)) = #v[d[0], d[1], d[2], d[3], d[4], d[5]] := by
  ext k hk
  rw [getElem_rawSample _ k hk, getElem_fillBuf_take, if_pos hk]
  interval_cases k <;> rfl

/-- The frame of a served burst. -/
def burstFrame (b : Build) (d : Vector Byte burstMax) : List Byte :=
  pack b #v[d[0], d[1], d[2], d[3], d[4], d[5]]

/-- The state that SEQ_EMIT leaves after a served burst (R226). -/
def State.sampleSent (d : Vector Byte burstMax) (s : State) : State :=
  { s.seqLogged ⟨s.sampleBurst, .success, some (d.toList.take 6)⟩ with
    buf := fillBuf s.buf (d.toList.take 6)
    frame := burstFrame s.build d
    out := s.out ++ burstFrame s.build d
    frameCount := s.frameCount + 1#32
    ready := false
    phase := .idle }

theorem seqEmit_served {s : State} {d : Vector Byte burstMax} (h : s.nextAnswer s.sampleBurst = .served d) :
    seqEmit s = s.sampleSent d := by
  have hpack : pack s.build (rawSample (fillBuf s.buf (d.toList.take 6))) = burstFrame s.build d :=
    congrArg (pack s.build) (rawSample_fillBuf_take s.buf d)
  rw [seqEmit_eq, seqRead_served h, afterBurst, convert_emitFrame, State.sampleSent, ← hpack]
  rfl

theorem seqEmit_failed {s : State} {r : TxResult} (h : resultOf (s.nextAnswer s.sampleBurst) = some r)
    (hr : r ≠ .success) : seqEmit s = (s.seqLogged ⟨s.sampleBurst, r, none⟩).abandonCycle :=
  (seqEmit_eq s).trans (seqRead_failed h hr)

theorem seqEmit_silent {s : State} (h : s.nextAnswer s.sampleBurst = .silent) :
    seqEmit s = s.hangOn .seq s.sampleBurst :=
  (seqEmit_eq s).trans (seqRead_silent h)

/-! ### The turn in each phase -/

theorem State.SeqFree.withTurns {s : State} (h : s.SeqFree) (rest : List Turn) : (s.withTurns rest).SeqFree :=
  ⟨h.free, h.run⟩

theorem seqTurn_of_ready {s : State} (hf : s.SeqFree) (hphase : s.phase = .idle) (hready : s.ready = true) :
    seqTurn s = s.setPhase .reading := by
  simp [seqTurn, hf.free, hf.run, hphase, hready, seqArm]

theorem seqTurn_of_reading {s : State} (hf : s.SeqFree) (hphase : s.phase = .reading) : seqTurn s = seqStatus s := by
  simp [seqTurn, hf.free, hf.run, hphase]

theorem seqTurn_of_emitting {s : State} (hf : s.SeqFree) (hphase : s.phase = .emitting) : seqTurn s = seqEmit s := by
  simp [seqTurn, hf.free, hf.run, hphase]

/-- With nothing enabled, stuck or not, the sequencer holds (R227). -/
theorem seqTurn_of_nothing {s : State} (h : s.run = false ∨ s.run = true ∧ s.phase = .idle ∧ s.ready = false) :
    seqTurn s = s := by
  obtain hrun | ⟨hrun, hphase, hready⟩ := h
  · simp [seqTurn, hrun]
  · simp [seqTurn, hrun, hphase, hready]

section
variable {s : State} {rest : List Turn} (hnext : s.seqNext rest) (hf : s.SeqFree)
include hnext hf

theorem step_of_ready (hphase : s.phase = .idle) (hready : s.ready = true) :
    step s = .next ((s.withTurns rest).setPhase .reading) := by
  rw [step_of_seqNext hnext, seqTurn_of_ready (hf.withTurns rest) hphase hready]

theorem step_of_reading (hphase : s.phase = .reading) : step s = .next (seqStatus (s.withTurns rest)) := by
  rw [step_of_seqNext hnext, seqTurn_of_reading (hf.withTurns rest) hphase]

theorem step_of_emitting (hphase : s.phase = .emitting) : step s = .next (seqEmit (s.withTurns rest)) := by
  rw [step_of_seqNext hnext, seqTurn_of_emitting (hf.withTurns rest) hphase]

theorem step_of_served_burst {d : Vector Byte burstMax} (hphase : s.phase = .emitting)
    (h : s.nextAnswer s.sampleBurst = .served d) : step s = .next ((s.withTurns rest).sampleSent d) := by
  rw [step_of_emitting hnext hf hphase, seqEmit_served (s := s.withTurns rest) h]

end

/-- Settles O38. -/
theorem sequencerHoldsWithNothingToDo : Obligations.SequencerHoldsWithNothingToDo := by
  intro s rest hnext h
  rw [step_of_seqNext hnext, seqTurn_of_nothing (s := s.withTurns rest) h]
  rfl

/-- Settles O35. -/
theorem readySequencerStartsReading : Obligations.ReadySequencerStartsReading :=
  fun _ _ hnext hfree hrun hphase hready => step_of_ready hnext ⟨hfree, hrun⟩ hphase hready

/-- Settles O36, answer by answer. -/
theorem statusReadDecidesTheCycle : Obligations.StatusReadDecidesTheCycle := by
  intro s rest hnext hfree hrun hphase
  rw [step_of_reading hnext ⟨hfree, hrun⟩ hphase]
  refine ⟨fun d h hnew => ?_, fun d h hnone => ?_, fun r h hr => ?_, fun h => ?_⟩
  · rw [seqStatus_newData (s := s.withTurns rest) h hnew]
    rfl
  · rw [seqStatus_noData (s := s.withTurns rest) h hnone]
    rfl
  · rw [seqStatus_failed (s := s.withTurns rest) h hr]
    rfl
  · rw [seqStatus_silent (s := s.withTurns rest) h]
    rfl

/-- Settles O37, answer by answer. -/
theorem burstIsFramedAndEmitted : Obligations.BurstIsFramedAndEmitted := by
  intro s rest hnext hfree hrun hphase
  have hf : s.SeqFree := ⟨hfree, hrun⟩
  refine ⟨fun d h => ?_, fun r h hr => ?_, fun h => ?_⟩
  · refine ⟨_, step_of_served_burst hnext hf hphase h, fun k hk => ?_, rfl⟩
    exact getElem_fillBuf_take s.buf d 6 hk
  · rw [step_of_emitting hnext hf hphase, seqEmit_failed (s := s.withTurns rest) h hr]
    rfl
  · rw [step_of_emitting hnext hf hphase, seqEmit_silent (s := s.withTurns rest) h]
    rfl

end Sys2Proof.Machine

/-! ## Sampling cycles

Whole cycles of the sequencer from Ready, with no other turn in between (42_sampling_scheduler R231 to R233). -/

namespace Sys2Proof.Machine

/-- The scheduler state Ready of R223, with a sequencer that can move. -/
structure State.SeqReady (s : State) : Prop extends s.SeqFree where
  idle : s.phase = .idle
  ready : s.ready = true

theorem run_succ_of_step {M : Host.Core} {s t : M.State} (h : M.step s = .next t) (n : Nat) :
    M.run (n + 1) s = M.run n t := by
  simp only [Host.Core.run, h]

theorem run_succ_of_modelStep {s t : State} (h : step s = .next t) (n : Nat) :
    Host.Core.run Sys2Proof.core (n + 1) s = Host.Core.run Sys2Proof.core n t :=
  run_succ_of_step (M := Sys2Proof.core) (s := s) (t := t) h n

theorem nextAnswer_of_cons {s : State} {a : BusAnswer} {more : List BusAnswer} (h : s.answers = a :: more)
    (txn : BusTxn) : s.nextAnswer txn = a := by
  rw [State.nextAnswer, h, List.headD_cons]

/-- The state that SEQ_ARM leaves of a cycle with the turns `rest` after its status read. -/
def State.armed (rest : List Turn) (s : State) : State := (s.withTurns rest).setPhase .reading

/-- Every cycle from Ready begins with SEQ_ARM and SEQ_STATUS. -/
theorem run_cycle {s t : State} {rest : List Turn} (hs : s.SeqReady) (hturns : s.turns = .seq :: .seq :: rest)
    (hstatus : seqStatus (s.armed rest) = t) (n : Nat) :
    Host.Core.run Sys2Proof.core (n + 2) s = Host.Core.run Sys2Proof.core n t := by
  have harm : step s = .next (s.armed (.seq :: rest)) := step_of_ready (.inl hturns) hs.toSeqFree hs.idle hs.ready
  have hread : step (s.armed (.seq :: rest)) = .next t :=
    hstatus ▸ step_of_reading (s := s.armed (.seq :: rest)) (.inl rfl) ⟨hs.free, hs.run⟩ rfl
  exact (run_succ_of_modelStep harm (n + 1)).trans (run_succ_of_modelStep hread n)

/-- Settles O41. -/
theorem cycleWithoutNewDataEmitsNothing : Obligations.CycleWithoutNewDataEmitsNothing := by
  intro s rest d more hturns hfree hrun hphase hready hanswers hnone
  have hstatus := seqStatus_noData (s := s.armed rest) (nextAnswer_of_cons hanswers _) hnone
  refine ⟨_, run_cycle ⟨⟨hfree, hrun⟩, hphase, hready⟩ hturns hstatus 0, ?_⟩
  simp [State.seqLogged, State.armed, State.withTurns, hanswers]

/-- Settles O40: SEQ_STATUS finds new data, and SEQ_EMIT sends the frame of the burst. -/
theorem successfulCycleEmitsOneFrame : Obligations.SuccessfulCycleEmitsOneFrame := by
  intro s rest status d more hturns hfree hrun hphase hready hanswers hnew
  have htail : s.answers.tail = .served d :: more := by rw [hanswers, List.tail_cons]
  have hstatus := seqStatus_newData (s := s.armed (.seq :: rest)) (nextAnswer_of_cons hanswers _) hnew
  have hemit := step_of_served_burst (s := (s.armed (.seq :: rest)).dataFound status[0]) (.inl rfl) ⟨hfree, hrun⟩ rfl
    (nextAnswer_of_cons htail _)
  have hcycle := (run_cycle ⟨⟨hfree, hrun⟩, hphase, hready⟩ hturns hstatus 1).trans (run_succ_of_modelStep hemit 0)
  have hshape : frameShape s.build.mode (burstFrame s.build d) := frameShape_pack _ _
  refine ⟨_, burstFrame s.build d, hcycle, ?_⟩
  simp [State.sampleSent, State.dataFound, State.seqLogged, State.armed, State.withTurns, State.statusRead,
    State.sampleBurst, hshape]

/-- The state after a cycle whose status read fails (R225), with the turns `rest` after it. -/
def State.cycleFailed (rest : List Turn) (r : TxResult) (s : State) : State :=
  ((s.withTurns rest).seqLogged ⟨s.statusRead, r, none⟩).abandonCycle

theorem run_cycleFailed {s : State} {rest : List Turn} {r : TxResult} (hs : s.SeqReady)
    (hturns : s.turns = .seq :: .seq :: rest) (h : resultOf (s.nextAnswer s.statusRead) = some r) (hr : r ≠ .success)
    (n : Nat) : Host.Core.run Sys2Proof.core (n + 2) s = Host.Core.run Sys2Proof.core n (s.cycleFailed rest r) :=
  run_cycle hs hturns (seqStatus_failed (s := s.armed rest) h hr) n

/-- A failed cycle ends in Ready: READY is kept (R231). -/
theorem State.SeqReady.cycleFailed {s : State} (h : s.SeqReady) (rest : List Turn) (r : TxResult) :
    (s.cycleFailed rest r).SeqReady :=
  ⟨⟨h.free, h.run⟩, rfl, h.ready⟩

section
variable (s : State) (rest : List Turn) (r : TxResult)

theorem State.cycleFailed_sent : (s.cycleFailed rest r).sent = s.sent := rfl

theorem State.cycleFailed_errCount : (s.cycleFailed rest r).errCount = s.errCount + 1#32 := rfl

theorem State.length_busLog_cycleFailed : (s.cycleFailed rest r).busLog.length = s.busLog.length + 1 :=
  List.length_append

end

theorem exists_failed_result {a : BusAnswer} (h : a = .noAck ∨ a = .busError) :
    ∃ r, resultOf a = some r ∧ r ≠ .success := by
  obtain rfl | rfl := h
  · exact ⟨.noAck, rfl, by simp⟩
  · exact ⟨.busError, rfl, by simp⟩

/-- Settles O42, by induction on the failing answers: each one is a cycle that ends in Ready. -/
theorem persistentFailureOnlyCountsErrors : Obligations.PersistentFailureOnlyCountsErrors := by
  intro n s rest fails more hturns hfree hrun hphase hready hanswers hlength hfails
  have hs : s.SeqReady := ⟨⟨hfree, hrun⟩, hphase, hready⟩
  clear hfree hrun hphase hready
  induction fails generalizing n s with
  | nil =>
    obtain rfl : n = 0 := hlength.symm
    exact ⟨s, rfl, rfl, rfl, by simp, hs.idle, hs.ready, rfl, hturns⟩
  | cons a fails ih =>
    obtain rfl : n = fails.length + 1 := hlength.symm
    obtain ⟨ha, hfails⟩ := List.forall_mem_cons.mp hfails
    obtain ⟨r, hresult, hr⟩ := exists_failed_result ha
    rw [← nextAnswer_of_cons hanswers s.statusRead] at hresult
    have htail : s.answers.tail = fails ++ more := by rw [hanswers, List.cons_append, List.tail_cons]
    obtain ⟨t, ht, hout, hframes, herrors, hidle, hready, hlog, hrest⟩ :=
      ih fails.length (s.cycleFailed (List.replicate (2 * fails.length) Turn.seq ++ rest) r) rfl htail rfl hfails
        (hs.cycleFailed _ r)
    obtain ⟨hout', hframes'⟩ := Prod.mk.inj (s.cycleFailed_sent (List.replicate (2 * fails.length) Turn.seq ++ rest) r)
    rw [State.length_busLog_cycleFailed] at hlog
    refine ⟨t, (run_cycleFailed hs hturns hresult hr _).trans ht, hout.trans hout', hframes.trans hframes', ?_, hidle,
      hready, by omega, hrest⟩
    rw [herrors, State.cycleFailed_errCount, BitVec.ofNat_add, BitVec.add_assoc, BitVec.add_comm 1#32]

end Sys2Proof.Machine

/-! ## The axis decode and the fields of a frame -/

namespace Sys2Proof.Machine

/-! ### The two forms of the axis decode -/

/-- The arithmetic shift drops the low bits: the word is the kept bits, sign-extended, times 2^s plus the dropped ones. -/
theorem asr_sext {m s : Nat} (hm : 0 < m) (w : BitVec (m + s)) : asr (sext w) s = (w.extractLsb' s m).toInt := by
  have hsplit : w.toInt = 2 ^ s * (w.extractLsb' s m).toInt + ((w.extractLsb' 0 s).toNat : Int) := by
    conv_lhs => rw [← BitVec.extractLsb'_append_extractLsb' (x := w)]
    rw [BitVec.toInt_append, if_neg (by simpa using hm.ne')]
  have hdropped : ((w.extractLsb' 0 s).toNat : Int) < 2 ^ s := by exact_mod_cast (w.extractLsb' 0 s).isLt
  rw [asr, sext, hsplit, Int.mul_add_ediv_left _ _ (by positivity), Int.ediv_eq_zero_of_lt (by positivity) hdropped,
    Int.add_zero]

theorem decodeAxis_six (w : BitVec 16) : decodeAxis 6 w = (w.extractLsb' 6 10).toInt :=
  asr_sext (m := 10) (s := 6) (by decide) w

theorem decodeAxis_four (w : BitVec 16) : decodeAxis 4 w = (w.extractLsb' 4 12).toInt :=
  asr_sext (m := 12) (s := 4) (by decide) w

/-- Ten bits are left in CountMode. -/
theorem decodeAxis_six_range (w : BitVec 16) : -512 ≤ decodeAxis 6 w ∧ decodeAxis 6 w ≤ 511 := by
  rw [decodeAxis_six]
  exact ⟨BitVec.le_toInt _, Int.le_of_lt_add_one BitVec.toInt_lt⟩

/-- Twelve bits are left in PhysicalUnitMode. -/
theorem decodeAxis_four_range (w : BitVec 16) : -2048 ≤ decodeAxis 4 w ∧ decodeAxis 4 w ≤ 2047 := by
  rw [decodeAxis_four]
  exact ⟨BitVec.le_toInt _, Int.le_of_lt_add_one BitVec.toInt_lt⟩

/-- The decode is the floor of the division (00_scope R11). -/
theorem decodeAxis_floor (s : Nat) (w : BitVec 16) :
    decodeAxis s w * 2 ^ s ≤ w.toInt ∧ w.toInt < decodeAxis s w * 2 ^ s + 2 ^ s := by
  refine ⟨Int.ediv_mul_le _ (by positivity), ?_⟩
  rw [← add_one_mul]
  exact Int.lt_ediv_add_one_mul_self _ (by positivity)

/-- Settles O26. -/
theorem decodeFormsAgree : Obligations.DecodeFormsAgree := fun w =>
  ⟨decodeAxis_six w, decodeAxis_four w, decodeAxis_six_range w, decodeAxis_four_range w, decodeAxis_floor 6 w,
    decodeAxis_floor 4 w⟩

/-! ### The field of each mode reads back -/

/-- The two bytes of a 16-bit value, most significant first, are the value. -/
theorem append_two_bytes (c : BitVec 16) : c.extractLsb' 8 8 ++ c.extractLsb' 0 8 = c :=
  BitVec.extractLsb'_append_extractLsb' (w := 8)

/-- The four bytes of a 32-bit value, most significant first, are the value. -/
theorem append_four_bytes (p : BitVec 32) :
    p.extractLsb' 24 8 ++ p.extractLsb' 16 8 ++ p.extractLsb' 8 8 ++ p.extractLsb' 0 8 = p := by
  rw [BitVec.extractLsb'_append_extractLsb'_eq_extractLsb' (start₂ := 24) rfl,
    BitVec.extractLsb'_append_extractLsb'_eq_extractLsb' (start₂ := 16) rfl,
    BitVec.extractLsb'_append_extractLsb'_eq_extractLsb' (start₂ := 8) rfl]
  exact BitVec.extractLsb'_eq_self

/-- Settles O27: 4 times a value of ten bits fits in 16. -/
theorem countFieldReadsBack : Obligations.CountFieldReadsBack := by
  intro b w hmode
  obtain ⟨hlow, hhigh⟩ := decodeAxis_six_range w
  refine ⟨_, _, axisField_count hmode w, ?_, by omega, by omega⟩
  rw [append_two_bytes]
  exact BitVec.toInt_ofInt_eq_self (by decide) (by omega) (by omega)

theorem physOf_neg (v : Int) : physOf (-v) = -physOf v := by
  rw [physOf, Int.neg_mul, Int.neg_tdiv, physOf]

/-- Of a non-negative value phys is the floor of the quotient (43_conversion_framing R263). -/
theorem physOf_floor {v : Int} (h : 0 ≤ v) : 1000 * physOf v ≤ v * 19612 ∧ v * 19612 < 1000 * physOf v + 1000 := by
  rw [physOf, Int.tdiv_eq_ediv_of_nonneg (by omega)]
  omega

/-- Of a non-positive value phys is the ceiling of the quotient: trunc0 commutes with the sign (R263). -/
theorem physOf_ceil {v : Int} (h : v ≤ 0) : v * 19612 ≤ 1000 * physOf v ∧ 1000 * physOf v - 1000 < v * 19612 := by
  have hneg := physOf_floor (v := -v) (by omega)
  rw [physOf_neg] at hneg
  omega

theorem physOf_range {v : Int} (hlow : -2048 ≤ v) (hhigh : v ≤ 2047) : -40165 ≤ physOf v ∧ physOf v ≤ 40145 := by
  obtain h | h := Int.le_total 0 v
  · have := physOf_floor h
    omega
  · have := physOf_ceil h
    omega

/-- Settles O28: the exact value of twelve bits fits in 32. -/
theorem exactPhysicalFieldReadsBack : Obligations.ExactPhysicalFieldReadsBack := by
  intro b w hmode hexact
  obtain ⟨hlow, hhigh⟩ := decodeAxis_four_range w
  obtain ⟨hplow, hphigh⟩ := physOf_range hlow hhigh
  refine ⟨_, _, _, _, physOf (decodeAxis 4 w), axisField_physical hmode w, ?_, physOf_floor, physOf_ceil, hplow, hphigh⟩
  have hvalue : physValue b.physEval (decodeAxis 4 w) = physOf (decodeAxis 4 w) := by rw [hexact]; rfl
  rw [append_four_bytes, hvalue]
  exact BitVec.toInt_ofInt_eq_self (by decide) (by omega) (by omega)

/-! ### The float orders -/

theorem multipleOf250_iff {v : Int} : multipleOf250 v = true ↔ v % 250 = 0 := beq_iff_eq

/-- One smaller in magnitude is another value, but at 0. -/
theorem physLower_ne_iff {v : Int} : physLower v ≠ physOf v ↔ v ≠ 0 := by
  rw [physLower, ne_eq, sub_eq_self, Int.sign_eq_zero_iff_zero]

/-- An order that gives the smaller value exactly where `p` holds differs from the exact value there, but at 0. -/
theorem ite_physLower_ne_iff {p : Prop} [Decidable p] {v : Int} :
    (if p then physLower v else physOf v) ≠ physOf v ↔ p ∧ v ≠ 0 := by
  by_cases hp : p
  · rw [if_pos hp, physLower_ne_iff, and_iff_right hp]
  · simp [hp]

/-- Every order gives the exact value or, at the multiples of 250, the smaller one (R264). -/
theorem physValue_cases (e : PhysEval) (v : Int) :
    physValue e v = physOf v ∨ (physValue e v = physLower v ∧ v % 250 = 0) := by
  have lowerAt {p : Prop} [Decidable p] (hp : p → v % 250 = 0) :
      (if p then physLower v else physOf v) = physOf v ∨
        ((if p then physLower v else physOf v) = physLower v ∧ v % 250 = 0) := by
    by_cases h : p
    · exact .inr ⟨if_pos h, hp h⟩
    · exact .inl (if_neg h)
  match e with
  | .exact | .float .doubleToSingleSingle | .float .single => exact .inl rfl
  | .float .double => exact lowerAt fun h => by omega
  | .float .doubleToSingle => exact lowerAt multipleOf250_iff.mp
  | .float .unknown => exact lowerAt fun h => multipleOf250_iff.mp (Bool.and_elim_left h)

/-- Settles O29. The product is a multiple of 1000 exactly at the multiples of 250, as 19612 is 4 * 4903. -/
theorem floatOrdersDifferOnlyAtMultiplesOf250 : Obligations.FloatOrdersDifferOnlyAtMultiplesOf250 := by
  intro v _ _
  refine ⟨by omega, fun e => ?_, ite_physLower_ne_iff.trans ?_, ite_physLower_ne_iff.trans ?_, rfl, rfl⟩
  · by_cases hexact : physValue e v = physOf v
    · exact .inl hexact
    · obtain h | ⟨hlower, hmultiple⟩ := physValue_cases e v
      · exact absurd h hexact
      · exact .inr ⟨hlower, hmultiple, physLower_ne_iff.mp (hlower ▸ hexact)⟩
  · simp only [List.mem_cons, List.not_mem_nil, or_false]
    omega
  · rw [multipleOf250_iff]

/-! ### The lanes -/

theorem getElem?_append_length_add {l : List Byte} {n : Nat} (h : l.length = n) (l' : List Byte) (k : Nat) :
    (l ++ l')[n + k]? = l'[k]? := by
  subst h
  rw [List.getElem?_append_right (Nat.le_add_right _ _), Nat.add_sub_cancel_left]

/-- The axis fields lie one after another behind the header (43_conversion_framing R270). -/
theorem getElem?_pack_field (b : Build) (raw : Vector Byte sampleBytes) (i : Fin 3) {k : Nat}
    (hk : k < (flen b.mode - 2) / 3) :
    (pack b raw)[1 + i.val * ((flen b.mode - 2) / 3) + k]? = (axisField b (axisWord raw i))[k]? := by
  have hlength (w : BitVec 16) : (axisField b w).length = (flen b.mode - 2) / 3 := by
    rw [axisField_length]
    cases b.mode <;> rfl
  generalize (flen b.mode - 2) / 3 = n at hk hlength
  have hfield (w : BitVec 16) (rest : List Byte) : (axisField b w ++ rest)[k]? = (axisField b w)[k]? :=
    List.getElem?_append_left (by rw [hlength]; exact hk)
  rw [pack, Nat.add_assoc, Nat.add_comm 1, List.getElem?_cons_succ, List.append_assoc, List.append_assoc]
  match i with
  | 0 => rw [show (0 : Fin 3).val * n + k = k by simp, hfield]
  | 1 => rw [show (1 : Fin 3).val * n + k = n + k by simp, getElem?_append_length_add (hlength _), hfield]
  | 2 =>
    rw [show (2 : Fin 3).val * n + k = n + (n + k) by simp; omega, getElem?_append_length_add (hlength _),
      getElem?_append_length_add (hlength _), hfield]

/-- An axis word is made of its own two bytes alone (R260). -/
theorem axisWord_congr {raw raw' : Vector Byte sampleBytes} {i : Fin 3} (hlow : raw[2 * i.val]? = raw'[2 * i.val]?)
    (hhigh : raw[2 * i.val + 1]? = raw'[2 * i.val + 1]?) : axisWord raw i = axisWord raw' i := by
  have hi := i.isLt
  rw [Vector.getElem?_eq_getElem (by unfold sampleBytes; omega), Vector.getElem?_eq_getElem (by unfold sampleBytes; omega),
    Option.some_inj] at hlow hhigh
  rw [axisWord, axisWord, hlow, hhigh]

/-- Settles O31: the bytes of a field are those of its axis word. -/
theorem axisLanesAreIndependent : Obligations.AxisLanesAreIndependent := by
  intro b raw raw' i k hlow hhigh hk
  rw [getElem?_pack_field b raw i hk, getElem?_pack_field b raw' i hk, axisWord_congr hlow hhigh]

/-! ### The sentinels -/

theorem frameShape.head {m : Mode} {f : List Byte} (h : frameShape m f) : f[0]? = some frameHeader := by
  obtain ⟨-, payload, rfl⟩ := h
  rfl

theorem frameShape.last {m : Mode} {f : List Byte} (h : frameShape m f) : f[f.length - 1]? = some frameFooter := by
  obtain ⟨-, payload, rfl⟩ := h
  rw [← List.getLast?_eq_getElem?, ← List.cons_append, List.getLast?_concat]

/-- Settles O32: a packed frame has the shape of a frame. -/
theorem everyPackedFrameIsBounded : Obligations.EveryPackedFrameIsBounded := fun b raw =>
  ⟨pack_length b raw, (frameShape_pack b raw).head, (frameShape_pack b raw).last⟩

end Sys2Proof.Machine

/-! ## LDBUF, CONVERT and EMIT -/

namespace Sys2Proof.Machine

theorem wf_ldbuf_iff {idx : BitVec 8} {data : Byte} : (Instr.ldbuf idx data).wf = true ↔ idx.toNat < burstMax :=
  decide_eq_true_iff

section
variable {s : State} (hrun : s.run = false)
include hrun

theorem exec_ldbuf {idx : BitVec 8} (hidx : idx.toNat < burstMax) (data : Byte) :
    exec (.ldbuf idx data) s = .next ((s.putBuf idx.toNat data).setCmdResult .success) := by
  rw [exec, execLdbuf, issue_run (wf_ldbuf_iff.mpr hidx) hrun]

theorem exec_convert : exec .convert s = .next (s.convert.setCmdResult .success) := by
  rw [exec, execConvert, issue_run rfl hrun]

theorem exec_emit : exec .emit s = .next (s.emitFrame.setCmdResult .success) := by
  rw [exec, execEmit, issue_run rfl hrun]

end

/-- Settles O22: an index out of range is refused by the decoder and turned away by the issue step. -/
theorem ldbufWritesOneByte : Obligations.LdbufWritesOneByte := by
  refine ⟨fun w hw hidx => ?_, fun idx data s hbad => ?_, fun idx data s hidx hrun => ?_⟩
  · exact decode_of_row (opcodeMap.getElem_mem (n := 6) (by decide)) hw (wf_ldbuf_iff.mpr hidx)
  · have hwf : (Instr.ldbuf idx data).wf = false :=
      Bool.eq_false_iff.mpr fun hwf => absurd (wf_ldbuf_iff.mp hwf) (Nat.not_lt.mpr hbad)
    refine ⟨⟨.operandRange, (decode_encode (.ldbuf idx data)).trans ?_⟩, exec_of_illegal hwf s⟩
    rw [hwf]
    rfl
  · refine ⟨_, exec_ldbuf hrun hidx data, fun k hk => ?_, rfl⟩
    rw [State.setCmdResult_buf, State.putBuf, getElem_putByte s.buf idx.toNat data k hk]
    exact if_congr eq_comm rfl rfl

/-- Settles O23. -/
theorem convertPacksTheSample : Obligations.ConvertPacksTheSample :=
  ⟨decodeOfEncodeIsIdentity .convert rfl, fun _ => exec_convert⟩

/-- Settles O24. -/
theorem emitSendsTheFrame : Obligations.EmitSendsTheFrame :=
  ⟨decodeOfEncodeIsIdentity .emit rfl, fun _ => exec_emit⟩

end Sys2Proof.Machine

/-! ## Failures and refusals

What a refused command, a failed transaction and an agent that is stuck leave unchanged, and that none of them stops the
block (60_exceptions R301 to R305). -/

/-! ### Timeout is never written -/

namespace Sys2Proof.Machine

theorem cmdResult_ne_timeout_stepClosed : StepClosed fun s => s.cmdResult ≠ .timeout where
  write _ _ hw h := by
    cases hw with
    | cmdResult r hr => exact hr
    | _ => exact h
  hang _ _ _ h := h
  turns _ _ h := h
  tick _ h := h
  seq _ _ ht h := by cases ht <;> exact h

theorem seqResult_ne_timeout_stepClosed : StepClosed fun s => s.seqResult ≠ .timeout where
  write _ _ hw h := by cases hw <;> exact h
  hang _ _ _ h := h
  turns _ _ h := h
  tick _ h := h
  seq _ _ ht h := by
    cases ht with
    | hold | arm | hang => exact h
    | abandon _ _ he | newData _ _ he | noData _ _ he | emit _ _ he => exact he.1

/-- Settles O52: CMD_RESULT and SEQ_RESULT each stay other than Timeout. -/
theorem timeoutIsNeverWritten : Obligations.TimeoutIsNeverWritten := fun _ _ ht =>
  ⟨not_imp_not.mp (cmdResult_ne_timeout_stepClosed.step ht), not_imp_not.mp (seqResult_ne_timeout_stepClosed.step ht)⟩

/-! ### What counts an error -/

theorem errCount_hostClosed (n : BitVec 32) : HostClosed fun s => s.errCount = n where
  write _ _ hw h := by cases hw <;> exact h
  hang _ _ _ h := h

/-- The sequencer counts an error only where a failed read ends its cycle (42_sampling_scheduler R225, R226). -/
theorem SeqStep.abandons_of_errCount_ne {s t : State} (ht : SeqStep s t) (hne : t.errCount ≠ s.errCount) :
    ∃ e : BusEntry, e.res ≠ .success ∧ t = (s.seqLogged e).abandonCycle := by
  cases ht with
  | abandon _ _ _ hfail => exact ⟨_, hfail, rfl⟩
  | hold | arm | hang | newData | noData | emit => exact absurd rfl hne

/-- Settles O53: only a cycle that is given up counts an error, and it writes no output. -/
theorem failuresAreSilentAtTheOutput : Obligations.FailuresAreSilentAtTheOutput := by
  intro s t ht hne
  obtain ⟨rest, -, rfl⟩ | ⟨rest, -, ht⟩ | ⟨a, rest, -, ht⟩ := step_cases ht
  · exact absurd rfl hne
  · obtain ⟨e, hfail, rfl⟩ := ht.abandons_of_errCount_ne hne
    exact ⟨rfl, hfail, rfl, rfl, rfl, rfl, rfl, rfl⟩
  · exact absurd ((errCount_hostClosed s.errCount).hostTurn ht rfl) hne

/-! ### Refused commands -/

/-- Settles O11: the decoder refuses the word, or the issue step turns its command away. -/
theorem refusedCommandsChangeOnlyCmdRegisters : Obligations.RefusedCommandsChangeOnlyCmdRegisters := by
  intro s w rest hwrites
  rw [step_of_hostWrites hwrites]
  refine ⟨fun ⟨e, hdecode⟩ => ?_, fun i hdecode hrun => ?_⟩
  · rw [hostCommand_of_error hdecode]
    rfl
  · obtain ⟨-, hwf⟩ := acceptedWordIsItsOwnEncoding w i hdecode
    have hrun' : ((s.withTurns rest).setCmdLast w).run = true := hrun
    rw [hostCommand_of_ok hdecode, exec_of_busy hwf hrun']
    rfl

/-! ### Every turn has a next state, or is refused by name -/

theorem exec_eq_next (i : Instr) (s : State) : ∃ t, exec i s = .next t := by
  obtain ⟨body, hexec⟩ := exec_eq_issue i
  exact ⟨_, hexec s⟩

theorem hostCommand_eq_next (w : Word) (s : State) : ∃ t, hostCommand w s = .next t := by
  cases hdecode : decode w with
  | ok i =>
    rw [hostCommand_of_ok hdecode]
    exact exec_eq_next i _
  | error e => exact ⟨_, hostCommand_of_error hdecode s⟩

theorem hostAccess_eq_next {a : HostAccess} (h : a.legal = true) (s : State) : ∃ t, hostAccess a s = .next t := by
  cases a with
  | read offset width => exact ⟨_, if_pos h⟩
  | write offset width w =>
    have hwrite : hostAccess (.write offset width w) s = if offset = 0x00 then hostCommand w s else .next s := if_pos h
    rw [hwrite]
    split
    · exact hostCommand_eq_next w s
    · exact ⟨s, rfl⟩

/-- A turn of a host that is stuck passes (60_exceptions R305; log entry 3). -/
theorem hostTurn_of_stuck {s : State} (h : s.stuckAgent .host = true) (a : HostAccess) : hostTurn a s = .next s :=
  if_pos h

/-- The host's turn has a next state, or is refused as an access that is no aligned word (10_state R57). -/
theorem hostTurn_next_or_refused (a : HostAccess) (s : State) :
    (∃ t, hostTurn a s = .next t) ∨ (hostTurn a s = .refused .hostAccess ∧ a.legal = false) := by
  cases hfree : s.stuckAgent .host with
  | true => exact .inl ⟨s, hostTurn_of_stuck hfree a⟩
  | false =>
    have haccess : hostTurn a s = hostAccess a s := if_neg (by simp [hfree])
    rw [haccess]
    cases hlegal : a.legal with
    | true => exact .inl (hostAccess_eq_next hlegal s)
    | false => exact .inr ⟨if_neg (by simp [hlegal]), rfl⟩

/-- A step takes the first of the coming turns (10_state R30). -/
theorem step_of_turns {s : State} {turn : Turn} {rest : List Turn} (h : s.turns = turn :: rest) :
    step s = takeTurn turn (s.withTurns rest) := by
  simp only [step, nextTurn, h]
  rfl

/-- Settles O13, turn by turn. -/
theorem noCommandStopsTheMachine : Obligations.NoCommandStopsTheMachine := by
  refine ⟨exec_eq_next, fun s => ?_⟩
  cases hturns : s.turns with
  | nil => exact .inl ⟨_, step_of_seqNext (.inr ⟨hturns, rfl⟩)⟩
  | cons turn rest =>
    rw [step_of_turns hturns]
    cases turn with
    | tick | seq => exact .inl ⟨_, rfl⟩
    | reset => exact .inr (.inr ⟨rfl, rest, rfl⟩)
    | host a =>
      obtain hnext | ⟨hrefused, hlegal⟩ := hostTurn_next_or_refused a (s.withTurns rest)
      · exact .inl hnext
      · exact .inr (.inl ⟨hrefused, a, rest, rfl, hlegal⟩)

/-! ### Stuck agents -/

theorem stuckAgent_of_hung {s : State} {who : Agent} {txn : BusTxn} (h : s.hung = some ⟨who, txn⟩) :
    s.stuckAgent who = true := by
  cases who <;> simp [State.stuckAgent, h]

theorem seqTurn_of_stuck {s : State} (h : s.stuckAgent .seq = true) : seqTurn s = s := if_pos h

/-- Settles O39: the stuck agent's own turn passes, and the tick is no agent's. -/
theorem stuckAgentHasNoFurtherStep : Obligations.StuckAgentHasNoFurtherStep := by
  intro s rest txn
  refine ⟨fun a hhung hturns => ?_, fun hhung hnext => ?_, tickOnlySetsReady s rest⟩
  · have hstuck : (s.withTurns rest).stuckAgent .host = true := stuckAgent_of_hung hhung
    rw [step_of_turns hturns]
    exact hostTurn_of_stuck hstuck a
  · have hstuck : (s.withTurns rest).stuckAgent .seq = true := stuckAgent_of_hung hhung
    rw [step_of_seqNext hnext, seqTurn_of_stuck hstuck]
    rfl

end Sys2Proof.Machine

namespace Sys2Proof.Machine

/-! ### A reset in the middle of a run -/

/-- A reset request is refused in every state (70_reset_and_hazards R340). -/
theorem takeTurn_reset (s : State) : takeTurn .reset s = .refused .midRunReset := rfl

/-- Settles O59: the step takes the reset request, and that turn is refused. -/
theorem midRunResetIsRefused : Obligations.MidRunResetIsRefused := by
  intro s rest hturns
  rw [step_of_turns hturns, takeTurn_reset]

end Sys2Proof.Machine

/-! ## SCAN and CONFIG stuck in an unanswered transaction

The agent hangs after a row of completed transactions: the entries of BUS_LOG are the row's, and one answer more than the
row's is used (60_exceptions R305; log entry 3). -/

namespace Sys2Proof.Machine

/-- An agent stuck after the transactions `es`. -/
theorem State.hangOn_logTxns (es : List BusEntry) (who : Agent) (txn : BusTxn) (s : State) :
    (s.logTxns es).hangOn who txn =
      { s with
        hung := some ⟨who, txn⟩, busLog := s.busLog ++ es
        answers := s.answers.drop (es.length + 1), asked := s.asked + (es.length + 1) } := by
  simp only [State.hangOn, State.logTxns, List.tail_drop, Nat.add_assoc]

/-! ### SCAN -/

/-- Writing PRESENT and making the transactions do not interfere. -/
theorem State.scanned_eq_logTxns (s : State) (r : Nat → TxResult) (k : Nat) :
    s.scanned r k = { s with present := scanPresent s.present r k }.logTxns (scanEntries r k) := rfl

/-- Settles O19: the run of SCAN up to its unanswered probe, read off field by field. -/
theorem scanStopsAtAnUnansweredProbe : Obligations.ScanStopsAtAnUnansweredProbe := by
  intro s k r hrun hk hanswered hsilent
  refine ⟨_, exec_scan_unanswered hrun hk hanswered hsilent, fun a => ?_, ?_⟩
  · exact getLsbD_scanPresent s.present r hk.le a.toNat
  · rw [State.scanned_eq_logTxns, State.hangOn_logTxns, length_scanEntries]
    rfl

/-! ### CONFIG -/

theorem silent_or_resultOf (a : BusAnswer) : a = .silent ∨ ∃ r, resultOf a = some r :=
  or_iff_not_imp_left.mpr exists_resultOf

/-- For a write that CONFIG makes only if it is needed: unanswered, or with a result where it is made. -/
theorem silent_or_resultOf_if (p : Prop) (a : BusAnswer) :
    p ∧ a = .silent ∨ ∃ r, p → resultOf a = some r :=
  or_iff_not_imp_left.mpr fun h => exists_resultOf_if (not_and.mp h)

/-- An unanswered identity read leaves IDENT. -/
theorem State.configured_nil {s : State} (h : s.identAnswer = .silent) : s.configured [] = s := by
  rw [State.configured, State.logTxns_nil, h]
  rfl

/-- The host stuck in CONFIG after the transactions `es`. -/
theorem State.hangOn_configured (es : List BusEntry) (txn : BusTxn) (s : State) :
    (s.configured es).hangOn .host txn =
      { s with
        ident := byteOr s.ident s.identAnswer, hung := some ⟨.host, txn⟩, busLog := s.busLog ++ es
        answers := s.answers.drop (es.length + 1), asked := s.asked + (es.length + 1) } :=
  State.hangOn_logTxns es .host txn (s.setIdent _)

/-- CONFIG gets stuck after some of its transactions, or it completes and nobody gets stuck. -/
theorem configSteps_stuck_or_done (s : State) :
    (∃ es txn, configSteps s = .stuck ((s.configured es).hangOn .host txn)) ∨
    ∃ u, configSteps s = .done () u ∧ u.hung = s.hung := by
  obtain hident | ⟨ri, hi⟩ := silent_or_resultOf s.identAnswer
  · exact .inl ⟨[], _, by rw [State.configured_nil hident, configSteps_silentIdent hident]⟩
  obtain hctrlA | ⟨ra, ha⟩ := silent_or_resultOf s.ctrlAAnswer
  · exact .inl ⟨_, _, configSteps_silentA hi hctrlA⟩
  obtain hctrlB | ⟨rb, hb⟩ := silent_or_resultOf s.ctrlBAnswer
  · exact .inl ⟨_, _, configSteps_silentB hi ha hctrlB⟩
  obtain ⟨hneedA, hwriteA⟩ | ⟨wa, hwa⟩ := silent_or_resultOf_if (s.needsA = true) s.writeAAnswer
  · exact .inl ⟨_, _, configSteps_silentWriteA hi ha hb hneedA hwriteA⟩
  obtain ⟨hneedB, hwriteB⟩ | ⟨wb, hwb⟩ := silent_or_resultOf_if (s.needsB = true) s.writeBAnswer
  · exact .inl ⟨_, _, configSteps_silentWriteB hi ha hb hwa hneedB hwriteB⟩
  · exact .inr ⟨_, configSteps_answered hi ha hb hwa hwb, rfl⟩

/-- A CONFIG that leaves an agent stuck leaves the host stuck, and has written no register but IDENT. -/
theorem exec_config_hung {s t : State} (hrun : s.run = false) (hnone : s.hung = none)
    (hexec : exec .config s = .next t) (hhung : t.hung ≠ none) :
    (∃ txn, t.hung = some ⟨.host, txn⟩) ∧
      t = { s with
        ident := t.ident, hung := t.hung, busLog := t.busLog, answers := t.answers, asked := t.asked } := by
  rw [exec_config hrun] at hexec
  obtain ⟨es, txn, hstuck⟩ | ⟨u, hdone, hu⟩ := configSteps_stuck_or_done s
  · rw [hstuck] at hexec
    cases hexec
    exact ⟨⟨txn, rfl⟩, rfl⟩
  · rw [hdone] at hexec
    cases hexec
    exact absurd (hu.trans hnone) hhung

/-- The whole state that CONFIG leaves when it gets stuck after its transactions `es`. -/
theorem exec_config_of_stuck {s : State} {es : List BusEntry} {txn : BusTxn} (hrun : s.run = false)
    (h : configSteps s = .stuck ((s.configured es).hangOn .host txn)) :
    exec .config s = .next { s with
      ident := byteOr s.ident s.identAnswer, hung := some ⟨.host, txn⟩, busLog := s.busLog ++ es
      answers := s.answers.drop (es.length + 1), asked := s.asked + (es.length + 1) } := by
  rw [exec_config hrun, h, Progress.state_stuck, State.hangOn_configured]

/-- Settles O21: the forms of CONFIG's stuck run, one for each transaction. -/
theorem unansweredConfigNeverCompletes : Obligations.UnansweredConfigNeverCompletes := by
  refine ⟨fun s t => exec_config_hung, fun s hrun => ⟨fun hident => ?_, fun ri hi => ⟨fun hctrlA => ?_, fun ra ha =>
    ⟨fun hctrlB => ?_, fun rb hb => ⟨fun hneedA hwriteA => ?_, fun wa hwa hneedB hwriteB => ?_⟩⟩⟩⟩⟩
  · rw [exec_config hrun, configSteps_silentIdent hident, List.drop_one]
    rfl
  · exact exec_config_of_stuck hrun (configSteps_silentA hi hctrlA)
  · exact exec_config_of_stuck hrun (configSteps_silentB hi ha hctrlB)
  · exact exec_config_of_stuck hrun (configSteps_silentWriteA hi ha hb hneedA hwriteA)
  · rw [exec_config_of_stuck hrun (configSteps_silentWriteB hi ha hb hwa hneedB hwriteB), ← List.append_assoc,
      List.length_append, Nat.add_right_comm, State.writeAEntries, length_writeEntries]
    rfl

end Sys2Proof.Machine
